-- ==== Sys2Proof/Word.lean ====
section
/-! DEFINITION. The plain types of the Ostigo D64 that every other file uses: a byte of the link and the
numbers of heads, slots, profiles and banks (00_scope, Numbering and names). -/

namespace Sys2Proof

/-- One byte on the carousel link (R170). -/
abbrev Byte := BitVec 8

/-- A head number, 0 to 63. -/
abbrev HeadId := Fin 64

/-- A recipe slot number, 0 to 7. -/
abbrev SlotId := Fin 8

/-- A valve profile number, 0 to 7. -/
abbrev ProfileId := Fin 8

/-- A bank number, 0 to 3. Bank `b` holds heads `16 * b` to `16 * b + 15` (R47). -/
abbrev BankId := Fin 4

/-- A head mask names a set of heads: head `h` is bit `h` of its eight bytes, read little-endian (R178). -/
abbrev HeadMask := BitVec 64

end Sys2Proof
end

