-- ==== Sys2Proof/Syntax.lean ====
section
/-! DEFINITION. The commands of the D64: one constructor for each row of spec/opcode_table.json, with the
operands R178 gives the requests and Log 8 gives the other rows. -/

namespace Sys2Proof

/-- The geometry record (R1), as SET GEOMETRY carries it and as AT holds it. -/
structure Geometry where
  headCount : Nat
  cpr : Nat
  zeroOffset : Nat
  infeed : Nat
  latestClose : Nat
  discharge : Nat
  indexTolerance : Nat
  reverseTolerance : Nat
  lockoutThreshold : Nat
  deriving DecidableEq, Repr, Inhabited

/-- A recipe (R85): volumes in µL, times in ms. -/
structure Recipe where
  target : Nat
  softStart : Nat
  topUpBand : Nat
  toleranceBelow : Nat
  toleranceAbove : Nat
  contactWindow : Nat
  pressurizeDwell : Nat
  settleTime : Nat
  sniftDwell : Nat
  stuckWindow : Nat
  pulseCeiling : Nat
  smoothing : Nat
  gain : Nat
  outlierLimit : Nat
  deriving DecidableEq, Repr, Inhabited

/-- The seven fields SET VALVE PROFILE carries (R104, R178), with the codes of the enumerated ones as they
arrive: a code may be one that R105 refuses. -/
structure ProfileFields where
  openLag : Nat
  closingLag : Nat
  gasPolarity : Nat
  widePolarity : Nat
  narrowPolarity : Nat
  sniftPolarity : Nat
  fastDrive : Nat
  deriving DecidableEq, Repr, Inhabited

/-- The levels at the input pins when power comes on (Log 2, Log 8): the four address switches (R171), the
valve power sense (R111), the product-ready line (R144) and the contact inputs (R22). -/
structure PinLevels where
  switches : Fin 16
  valvePower : Bool
  productReady : Bool
  contacts : Vector Bool 64
  deriving DecidableEq, Repr

/-- The commands. A request row is the arrival of a complete valid frame of that request, addressed to this
node (R175, Log 3); `halt true` is the broadcast HALT (R174). The other rows are the events of the part. -/
inductive Instr where
  | readStatus
  | setGeometry (g : Geometry)
  | readGeometry
  | setValveProfile (profile : Nat) (fields : ProfileFields)
  | readValveProfile (profile : Nat)
  | setHead (head profile factor : Nat)
  | readHead (head : Nat)
  | enableHeads (mask : HeadMask)
  | disableHeads (mask : HeadMask)
  | loadRecipe (slot : Nat) (recipe : Recipe)
  | readRecipe (slot : Nat)
  | unloadRecipe (slot : Nat)
  | bindRecipe (mask : HeadMask) (slot : Nat)
  | readCorrections (slot : Nat)
  | readCorrectionForEdit (head slot : Nat)
  | writeCorrection (head slot : Nat) (value : Int)
  | restoreCorrections (slot : Nat) (values : Vector Int 64)
  | startProduction
  | stop
  | halt (broadcast : Bool)
  | clearHalt
  | startCleaning (openTime pauseTime cycles : Nat)
  | readCleaningVolumes
  | startCalibration (head target : Nat)
  | enterActualVolume (volume : Nat)
  | endCalibration
  | peekReports (n : Nat)
  | discardReports (n : Nat)
  | setReporting (threshold : Nat)
  | acknowledgeAlarms (mask : Byte)
  | restart
  | unknownRequest (code : Nat)
  | byteArrival (b : Byte)
  | gapTimerExpiry
  | replySent
  | encoderForwardStep
  | encoderBackwardStep
  | indexMarkStep
  | quadratureError
  | contactArrival (h : HeadId)
  | contactLoss (h : HeadId)
  | contactWindowExpiry (h : HeadId)
  | pressurizeDwellExpiry (h : HeadId)
  | settleExpiry (h : HeadId)
  | sniftDwellExpiry (h : HeadId)
  | ventDwellExpiry (h : HeadId)
  | millisecondTick
  | flowmeterPulse (h : HeadId)
  | bankScan (bank : BankId)
  | openPhaseExpiry
  | pausePhaseExpiry
  | valvePowerLoss
  | valvePowerReturn
  | productReadyChange (high : Bool)
  | powerOn (pins : PinLevels)
  | resetLineAssert
  | resetLineRelease (switches : Fin 16)
  deriving DecidableEq, Repr

end Sys2Proof
end

