-- ==== Sys2Proof/Machine/State.lean ====
section
/-! DEFINITION. The state of the D64: everything the spec's chapters say its eleven blocks hold, the levels at
its pins, the queue of waiting commands, and State.reset. Each part cites the rule that names it. -/

namespace Sys2Proof.Machine

/-- Why the machine stops with a fault: never. Every command of the D64 has a next state in every state (a
refused request is a reply, an encoder fault a change of state), so the type has no constructor. -/
inductive Fault where
  deriving DecidableEq, Repr

/-- Why a command has no meaning. -/
inductive Refusal where
  /-- Raised by exec for a row that has no meaning in this model; no arm raises it now. Safe: the model stops
  where the part goes on. -/
  | notModelled (mnemonic : String)
  deriving DecidableEq, Repr

/-! ### Angle Tracker (chapter 1) -/

/-- The three states of the tracker (section 1.6). -/
inductive TrackerStatus where
  | unreferenced
  | referenced
  | faulted
  deriving DecidableEq, Repr

/-- What AT holds: the geometry record (R1), the encoder count c (R4), the lead count (R6, R7), the slip count
(R10 to R12) and the tracker state. -/
structure Tracker where
  geometry : Geometry
  count : Nat
  lead : Nat
  slips : Nat
  status : TrackerStatus
  deriving DecidableEq, Repr

/-! ### Head Sequencer (chapter 2) -/

/-- The enable state of a head (R17). -/
inductive EnableState where
  | disabled
  | enabled
  | lockedOut
  deriving DecidableEq, Repr

/-- The cycle states of a head (section 2.2). -/
inductive CycleState where
  | idle
  | waitBottle
  | skip
  | pressurize
  | fillSoft
  | fillFast
  | fillTopUp
  | closing
  | snift
  | done
  | aborted
  | cleanOpen
  | cleanPause
  deriving DecidableEq, Repr

/-- What a head's timer times (R22). -/
inductive TimerKind where
  | contactWindow
  | pressurizeDwell
  | settle
  | sniftDwell
  | vent
  deriving DecidableEq, Repr

/-- A running timer of a head: what it times and the length in ms it was started with (R22). Its time left is
not held; its expiry is a command (Log 10). -/
structure Timer where
  kind : TimerKind
  length : Nat
  deriving DecidableEq, Repr

/-- The five flags of a fill (R54). -/
structure FillFlags where
  late : Bool
  overrange : Bool
  learned : Bool
  outlier : Bool
  changeover : Bool
  deriving DecidableEq, Repr

/-- The record of one fill (section 3.2, R51), volumes in nL, with the fill duration in ms that R33 records at
the close, 0 before it (Log 16). `delivered` is D, and the final volume V once the settle time has expired. -/
structure FillContext where
  slot : SlotId
  target : Nat
  correction : Int
  closeTarget : Nat
  closingLag : Nat
  factor : Nat
  delivered : Nat
  flow : Nat
  zeroScans : Nat
  grace : Nat
  startTime : BitVec 32
  duration : Nat
  flags : FillFlags
  deriving DecidableEq, Repr

/-- A head record: the static part of R17 and the dynamic part of R22. -/
structure Head where
  enable : EnableState
  profile : ProfileId
  factor : Nat
  active : Option SlotId
  pendingSlot : Option SlotId
  faults : Nat
  cycle : CycleState
  contactSeen : Bool
  timer : Option Timer
  fill : Option FillContext
  deriving DecidableEq, Repr

/-! ### Dose Engine (chapter 3) -/

/-- What stands behind one flowmeter input: the pulse counter (R46) and the last counter sample (R48). -/
structure Lane where
  counter : BitVec 16
  lastSample : BitVec 16
  deriving DecidableEq, Repr

/-! ### Valve Driver (chapter 6) -/

/-- One Boolean for each of the four outputs of a head (R103): for an open set, true is OPEN; for terminal
levels, true is ENERGIZED. -/
structure Outputs where
  gas : Bool
  wide : Bool
  narrow : Bool
  snift : Bool
  deriving DecidableEq, Repr

/-- How a pilot is wired (R104). -/
inductive Polarity where
  | normal
  | inverted
  deriving DecidableEq, Repr

/-- Whether the narrow path stays open in the fast stage (R110). -/
inductive FastDrive where
  | wideWithNarrow
  | wideAlone
  deriving DecidableEq, Repr

/-- A valve profile (R104), lags in µs. -/
structure ValveProfile where
  openLag : Nat
  closingLag : Nat
  gas : Polarity
  wide : Polarity
  narrow : Polarity
  snift : Polarity
  fastDrive : FastDrive
  deriving DecidableEq, Repr

/-- What VD keeps for one head: its open set, its vent flag and its terminal levels (R103). -/
structure HeadOutputs where
  opened : Outputs
  vent : Bool
  terminals : Outputs
  deriving DecidableEq, Repr

/-- The drive state of all 256 outputs (R111). -/
inductive DriveState where
  | powered
  | unpowered
  deriving DecidableEq, Repr

/-! ### Recipe Table (chapter 5) -/

/-- A recipe slot: EMPTY (`none`) or LOADED with a recipe (R84), and its binding count (R92). -/
structure Slot where
  recipe : Option Recipe
  bindings : Nat
  deriving DecidableEq, Repr

/-! ### Report Queue (chapter 7) -/

/-- The ten verdicts (R118). -/
inductive Verdict where
  | accept
  | underfill
  | overfill
  | late
  | shortSnift
  | burst
  | meterStuck
  | meterFault
  | halted
  | unfilled
  deriving DecidableEq, Repr

/-- A fill report (R117), volumes in µL, duration in ms; `slot` is none for the slot code 255. -/
structure Report where
  sequence : BitVec 32
  head : HeadId
  slot : Option SlotId
  verdict : Verdict
  flags : FillFlags
  finalVolume : Nat
  target : Nat
  correction : Int
  duration : Nat
  lostBefore : BitVec 32
  deriving DecidableEq, Repr

/-- What RQ holds: the records, oldest first (R121), the sequence counter (R120), the lost counter (R122) and
the near-full threshold (R127). -/
structure ReportQueue where
  records : List Report
  sequence : BitVec 32
  lost : BitVec 32
  threshold : Nat
  deriving DecidableEq, Repr

/-! ### Mode Controller (chapter 8) -/

/-- The six device modes (R135). -/
inductive Mode where
  | standby
  | production
  | draining
  | halted
  | cleaning
  | calibration
  deriving DecidableEq, Repr

/-- The five alarms (R146). -/
inductive Alarm where
  | indexSlip
  | encoderFault
  | valvePowerLost
  | reportOverflow
  | headLockout
  deriving DecidableEq, Repr

/-- The set of latched alarms (R146): which of the five it holds. -/
structure Alarms where
  indexSlip : Bool
  encoderFault : Bool
  valvePowerLost : Bool
  reportOverflow : Bool
  headLockout : Bool
  deriving DecidableEq, Repr

/-! ### Calibration Unit (chapter 9) -/

/-- The four states of CU (R152). -/
inductive CalState where
  | idle
  | armed
  | dosing
  | awaitActual
  deriving DecidableEq, Repr

/-- How a calibration run or entry ended (R152). -/
inductive CalOutcome where
  | complete
  | overrange
  | tooSmall
  | abortedContact
  | abortedStuck
  | abandoned
  | factorWritten
  deriving DecidableEq, Repr

/-- The last result of CU (R152), volumes in nL. -/
structure CalResult where
  head : HeadId
  outcome : CalOutcome
  pulses : Nat
  measured : Nat
  actual : Option Nat
  oldFactor : Option Nat
  newFactor : Option Nat
  deriving DecidableEq, Repr

/-- The calibration record (R152), target in µL. -/
structure Calibration where
  head : Option HeadId
  target : Option Nat
  state : CalState
  last : Option CalResult
  deriving DecidableEq, Repr

/-! ### Cleaning Sequencer (chapter 10) -/

/-- The cleaning plan (R162), times in ms. -/
structure CleaningPlan where
  openTime : Nat
  pauseTime : Nat
  cycles : Nat
  deriving DecidableEq, Repr

/-- Where a cleaning run stands (R162). -/
inductive CleaningPhase where
  | idle
  | openPhase
  | pausePhase
  deriving DecidableEq, Repr

/-- The completion state of a cleaning run (R162). -/
inductive CleaningResult where
  | none
  | running
  | complete
  | incomplete
  deriving DecidableEq, Repr

/-- What CS holds (R162); `timer` is the length in ms of the running phase timer, counters in nL. -/
structure Cleaning where
  plan : Option CleaningPlan
  phase : CleaningPhase
  cycle : Nat
  cyclesDone : Nat
  driven : Vector Bool 64
  timer : Option Nat
  counters : Vector Nat 64
  noFlow : Vector Bool 64
  result : CleaningResult
  deriving DecidableEq, Repr

/-! ### Link Interface (chapter 11) -/

/-- The receive state of LI (R171). -/
inductive ReceiveState where
  | hunt
  | receiving
  | transmitting
  deriving DecidableEq, Repr

/-- The status of a reply (R179). -/
inductive Status where
  | ok
  | unknownRequest
  | badLength
  | badField
  | wrongMode
  | geometryUnset
  | notReferenced
  | noValvePower
  | nothingEnabled
  | recipeMissing
  | slotEmpty
  | slotBound
  | headUncalibrated
  | noReservation
  | calState
  | calImplausible
  deriving DecidableEq, Repr

/-- A reply being transmitted (R176): the node address it is sent under, the request code as received, the
status, the five bytes of the status summary and the payload. Its frame on the pair is `Reply.frame`. -/
structure Reply where
  node : Nat
  code : Nat
  status : Status
  summary : List Byte
  payload : List Byte
  deriving DecidableEq, Repr

/-- What LI holds: the node address, the receive state, the receive buffer and whether the gap timer runs
(R171), the reply being transmitted (R176) and whether the reset of a RESTART waits for it (R149, Log 5). -/
structure Link where
  node : Fin 16
  rx : ReceiveState
  buffer : List Byte
  gapRunning : Bool
  tx : Option Reply
  restartPending : Bool
  deriving DecidableEq, Repr

/-! ### The whole -/

/-- The levels at the input pins: the valve power sense (R111), the product-ready line (R144), the contact
inputs (R22), the address switches (R171), and whether the reset line is held active (R150). -/
structure Pins where
  valvePower : Bool
  productReady : Bool
  contacts : Vector Bool 64
  switches : Fin 16
  resetHeld : Bool
  deriving DecidableEq, Repr

/-- The state of the D64. `valvePower` and `productReady` are the levels MC has recorded (R140, R144);
`choices` and `pending` are the model's own: the counter that the free orders are applied to (Log 11, Log 13)
and the queue of commands that are waiting, oldest first (Log 1). -/
@[ext]
structure State where
  tracker : Tracker
  heads : Vector Head 64
  inFlight : Nat
  clock : BitVec 32
  lanes : Vector Lane 64
  corrections : Vector (Vector Int 64) 8
  reservation : Option (HeadId × SlotId)
  slots : Vector Slot 8
  pendingChangeovers : Nat
  profiles : Vector ValveProfile 8
  outputs : Vector HeadOutputs 64
  drive : DriveState
  reports : ReportQueue
  mode : Mode
  alarms : Alarms
  valvePower : Bool
  productReady : Bool
  cal : Calibration
  cleaning : Cleaning
  link : Link
  pins : Pins
  choices : Nat
  pending : List Instr
  deriving DecidableEq, Repr

/-- No output open, or every terminal UNENERGIZED. -/
def Outputs.allOff : Outputs := ⟨false, false, false, false⟩

/-- All five flags clear. -/
def FillFlags.clear : FillFlags := ⟨false, false, false, false, false⟩

/-- No alarm latched. -/
def Alarms.noneLatched : Alarms := ⟨false, false, false, false, false⟩

/-- The alarms right after a reset (R149, R150): VALVE_POWER_LOST if valve power is absent, else none. -/
def Alarms.afterReset (valvePower : Bool) : Alarms := { Alarms.noneLatched with valvePowerLost := !valvePower }

/-- The mode right after a reset (R149, R150). -/
def Mode.afterReset (valvePower : Bool) : Mode := if valvePower then .standby else .halted

/-- The drive state that a level of the valve power sense gives (R111). -/
def DriveState.ofSense (valvePower : Bool) : DriveState := if valvePower then .powered else .unpowered

/-- The geometry record after power-on (R16). -/
def Geometry.powerOn : Geometry := ⟨0, 4096, 0, 8192, 24576, 40960, 8, 64, 3⟩

/-- A head record after power-on (R45). -/
def Head.powerOn : Head := ⟨.disabled, 0, 0, none, none, 0, .idle, false, none, none⟩

/-- A valve profile after power-on (R115). -/
def ValveProfile.powerOn : ValveProfile := ⟨0, 0, .normal, .normal, .normal, .normal, .wideWithNarrow⟩

/-- The calibration record after any reset (R161). -/
def Calibration.cleared : Calibration := ⟨none, none, .idle, none⟩

/-- What CS holds after any reset (R169). -/
def Cleaning.cleared : Cleaning :=
  ⟨none, .idle, 0, 0, Vector.replicate 64 false, none, Vector.replicate 64 0, Vector.replicate 64 false, .none⟩

/-- The state after power-on or the release of the reset line with the given levels at the pins (R16, R45,
R69, R83, R102, R115, R134, R150, R161, R169, R171). -/
def State.powerOn (pins : Pins) : State where
  tracker := ⟨Geometry.powerOn, 0, 0, 0, .unreferenced⟩
  heads := Vector.replicate 64 Head.powerOn
  inFlight := 0
  clock := 0
  lanes := Vector.replicate 64 ⟨0, 0⟩
  corrections := Vector.replicate 8 (Vector.replicate 64 0)
  reservation := none
  slots := Vector.replicate 8 ⟨none, 0⟩
  pendingChangeovers := 0
  profiles := Vector.replicate 8 ValveProfile.powerOn
  outputs := Vector.replicate 64 ⟨Outputs.allOff, false, Outputs.allOff⟩
  drive := DriveState.ofSense pins.valvePower
  reports := ⟨[], 0, 0, 224⟩
  mode := Mode.afterReset pins.valvePower
  alarms := Alarms.afterReset pins.valvePower
  valvePower := pins.valvePower
  productReady := pins.productReady
  cal := Calibration.cleared
  cleaning := Cleaning.cleared
  link := ⟨pins.switches, .hunt, [], false, none, false⟩
  pins := pins
  choices := 0
  pending := []

/-- The levels at the pins in State.reset: valve power present, product-ready low, no contact, address 1, the
reset line released. The spec gives none. DESIGN CHOICE (unsafe), Log 2. -/
def Pins.reset : Pins := ⟨true, false, Vector.replicate 64 false, 1, false⟩

/-- The machine right after power-on. -/
def State.reset : State := State.powerOn Pins.reset

end Sys2Proof.Machine
end

