-- ==== Sys2Proof/Decode.lean ====
section
/-! DEFINITION. Reading a request from the code and payload of a frame (R175, R178, R181), rejecting by name,
and the words of a request: its code and payload. The opcode table gives its rows no bits, so no table word
spells a command (Log 1). -/

namespace Sys2Proof

/-- Little-endian value of a list of bytes (R178). -/
def leNat : List Byte → Nat
  | [] => 0
  | b :: bs => b.toNat + 256 * leNat bs

/-- The `size` bytes at `offset` of a payload, as a little-endian number. -/
def fieldAt (p : List Byte) (offset size : Nat) : Nat := leNat ((p.drop offset).take size)

/-- Two's complement of a 16-bit field (R178). -/
def signed16 (n : Nat) : Int := if n < 32768 then (n : Int) else (n : Int) - 65536

/-- `k` bytes of `n`, little-endian (R178). -/
def leBytes : Nat → Nat → List Byte
  | 0, _ => []
  | k + 1, n => BitVec.ofNat 8 n :: leBytes k (n / 256)

/-- Two bytes of a signed value, two's complement, little-endian (R178). -/
def leSigned16 (v : Int) : List Byte := leBytes 2 (v % 65536).toNat

/-- The geometry record of R181, read from the start of a payload. -/
def Geometry.decode (p : List Byte) : Geometry where
  headCount := fieldAt p 0 1
  cpr := fieldAt p 1 2
  zeroOffset := fieldAt p 3 2
  infeed := fieldAt p 5 2
  latestClose := fieldAt p 7 2
  discharge := fieldAt p 9 2
  indexTolerance := fieldAt p 11 1
  reverseTolerance := fieldAt p 12 2
  lockoutThreshold := fieldAt p 14 1

/-- The bytes of the geometry record of R181. -/
def Geometry.encode (g : Geometry) : List Byte :=
  leBytes 1 g.headCount ++ leBytes 2 g.cpr ++ leBytes 2 g.zeroOffset ++ leBytes 2 g.infeed ++
    leBytes 2 g.latestClose ++ leBytes 2 g.discharge ++ leBytes 1 g.indexTolerance ++
    leBytes 2 g.reverseTolerance ++ leBytes 1 g.lockoutThreshold

/-- The recipe record of R181, read from `offset` of a payload. -/
def Recipe.decode (p : List Byte) (offset : Nat) : Recipe where
  target := fieldAt p offset 4
  softStart := fieldAt p (offset + 4) 4
  topUpBand := fieldAt p (offset + 8) 4
  toleranceBelow := fieldAt p (offset + 12) 2
  toleranceAbove := fieldAt p (offset + 14) 2
  contactWindow := fieldAt p (offset + 16) 2
  pressurizeDwell := fieldAt p (offset + 18) 2
  settleTime := fieldAt p (offset + 20) 2
  sniftDwell := fieldAt p (offset + 22) 2
  stuckWindow := fieldAt p (offset + 24) 2
  pulseCeiling := fieldAt p (offset + 26) 2
  smoothing := fieldAt p (offset + 28) 1
  gain := fieldAt p (offset + 29) 1
  outlierLimit := fieldAt p (offset + 30) 2

/-- The bytes of the recipe record of R181. -/
def Recipe.encode (r : Recipe) : List Byte :=
  leBytes 4 r.target ++ leBytes 4 r.softStart ++ leBytes 4 r.topUpBand ++ leBytes 2 r.toleranceBelow ++
    leBytes 2 r.toleranceAbove ++ leBytes 2 r.contactWindow ++ leBytes 2 r.pressurizeDwell ++
    leBytes 2 r.settleTime ++ leBytes 2 r.sniftDwell ++ leBytes 2 r.stuckWindow ++
    leBytes 2 r.pulseCeiling ++ leBytes 1 r.smoothing ++ leBytes 1 r.gain ++ leBytes 2 r.outlierLimit

/-- The profile fields of a SET VALVE PROFILE payload (R178), after the profile number. -/
def ProfileFields.decode (p : List Byte) : ProfileFields where
  openLag := fieldAt p 1 2
  closingLag := fieldAt p 3 2
  gasPolarity := fieldAt p 5 1
  widePolarity := fieldAt p 6 1
  narrowPolarity := fieldAt p 7 1
  sniftPolarity := fieldAt p 8 1
  fastDrive := fieldAt p 9 1

/-- The nine bytes that follow the profile number in SET VALVE PROFILE (R178). -/
def ProfileFields.encode (f : ProfileFields) : List Byte :=
  leBytes 2 f.openLag ++ leBytes 2 f.closingLag ++ leBytes 1 f.gasPolarity ++ leBytes 1 f.widePolarity ++
    leBytes 1 f.narrowPolarity ++ leBytes 1 f.sniftPolarity ++ leBytes 1 f.fastDrive

/-- The eight bytes at `offset`, as a head mask (R178). -/
def maskAt (p : List Byte) (offset : Nat) : HeadMask := BitVec.ofNat 64 (fieldAt p offset 8)

/-- The 64 signed corrections of RESTORE CORRECTIONS, head 0 first (R178). -/
def correctionsAt (p : List Byte) (offset : Nat) : Vector Int 64 :=
  Vector.ofFn fun h : HeadId => signed16 (fieldAt p (offset + 2 * h.val) 2)

/-- Why a frame's code and payload spell no request (R175). -/
inductive DecodeReject where
  /-- The code is none of R178's: the status is UNKNOWN_REQUEST. -/
  | unknownRequest
  /-- The payload length is not the one R178 gives for the code: the status is BAD_LENGTH. -/
  | badLength
  deriving DecidableEq, Repr

/-- A request whose payload must have length `n` (R175, step 2). -/
def withLength (n : Nat) (p : List Byte) (i : Instr) : Except DecodeReject Instr :=
  if p.length = n then .ok i else .error .badLength

/-- The request that a code and a payload spell (R175, R178). -/
def decodeRequest (code : Nat) (p : List Byte) : Except DecodeReject Instr :=
  match code with
  | 0x01 => withLength 0 p .readStatus
  | 0x02 => withLength 15 p (.setGeometry (Geometry.decode p))
  | 0x03 => withLength 0 p .readGeometry
  | 0x04 => withLength 10 p (.setValveProfile (fieldAt p 0 1) (ProfileFields.decode p))
  | 0x05 => withLength 1 p (.readValveProfile (fieldAt p 0 1))
  | 0x06 => withLength 4 p (.setHead (fieldAt p 0 1) (fieldAt p 1 1) (fieldAt p 2 2))
  | 0x07 => withLength 1 p (.readHead (fieldAt p 0 1))
  | 0x08 => withLength 8 p (.enableHeads (maskAt p 0))
  | 0x09 => withLength 8 p (.disableHeads (maskAt p 0))
  | 0x0A => withLength 33 p (.loadRecipe (fieldAt p 0 1) (Recipe.decode p 1))
  | 0x0B => withLength 1 p (.readRecipe (fieldAt p 0 1))
  | 0x0C => withLength 1 p (.unloadRecipe (fieldAt p 0 1))
  | 0x0D => withLength 9 p (.bindRecipe (maskAt p 0) (fieldAt p 8 1))
  | 0x0E => withLength 1 p (.readCorrections (fieldAt p 0 1))
  | 0x0F => withLength 2 p (.readCorrectionForEdit (fieldAt p 0 1) (fieldAt p 1 1))
  | 0x10 => withLength 4 p (.writeCorrection (fieldAt p 0 1) (fieldAt p 1 1) (signed16 (fieldAt p 2 2)))
  | 0x11 => withLength 129 p (.restoreCorrections (fieldAt p 0 1) (correctionsAt p 1))
  | 0x12 => withLength 0 p .startProduction
  | 0x13 => withLength 0 p .stop
  | 0x14 => withLength 0 p (.halt false)
  | 0x15 => withLength 0 p .clearHalt
  | 0x16 => withLength 5 p (.startCleaning (fieldAt p 0 2) (fieldAt p 2 2) (fieldAt p 4 1))
  | 0x17 => withLength 0 p .readCleaningVolumes
  | 0x18 => withLength 5 p (.startCalibration (fieldAt p 0 1) (fieldAt p 1 4))
  | 0x19 => withLength 4 p (.enterActualVolume (fieldAt p 0 4))
  | 0x1A => withLength 0 p .endCalibration
  | 0x1B => withLength 1 p (.peekReports (fieldAt p 0 1))
  | 0x1C => withLength 2 p (.discardReports (fieldAt p 0 2))
  | 0x1D => withLength 1 p (.setReporting (fieldAt p 0 1))
  | 0x1E => withLength 1 p (.acknowledgeAlarms (BitVec.ofNat 8 (fieldAt p 0 1)))
  | 0x1F => withLength 0 p .restart
  | _ => .error .unknownRequest

/-- The code and the payload that spell an addressed request (R178); an event of the part has none. The
broadcast HALT has the same code and payload under the broadcast address (R174). -/
def encodeRequest : Instr → Option (Nat × List Byte)
  | .readStatus => some (0x01, [])
  | .setGeometry g => some (0x02, g.encode)
  | .readGeometry => some (0x03, [])
  | .setValveProfile profile fields => some (0x04, leBytes 1 profile ++ fields.encode)
  | .readValveProfile profile => some (0x05, leBytes 1 profile)
  | .setHead head profile factor => some (0x06, leBytes 1 head ++ leBytes 1 profile ++ leBytes 2 factor)
  | .readHead head => some (0x07, leBytes 1 head)
  | .enableHeads mask => some (0x08, leBytes 8 mask.toNat)
  | .disableHeads mask => some (0x09, leBytes 8 mask.toNat)
  | .loadRecipe slot recipe => some (0x0A, leBytes 1 slot ++ recipe.encode)
  | .readRecipe slot => some (0x0B, leBytes 1 slot)
  | .unloadRecipe slot => some (0x0C, leBytes 1 slot)
  | .bindRecipe mask slot => some (0x0D, leBytes 8 mask.toNat ++ leBytes 1 slot)
  | .readCorrections slot => some (0x0E, leBytes 1 slot)
  | .readCorrectionForEdit head slot => some (0x0F, leBytes 1 head ++ leBytes 1 slot)
  | .writeCorrection head slot value => some (0x10, leBytes 1 head ++ leBytes 1 slot ++ leSigned16 value)
  | .restoreCorrections slot values => some (0x11, leBytes 1 slot ++ values.toList.flatMap leSigned16)
  | .startProduction => some (0x12, [])
  | .stop => some (0x13, [])
  | .halt _ => some (0x14, [])
  | .clearHalt => some (0x15, [])
  | .startCleaning openTime pauseTime cycles =>
    some (0x16, leBytes 2 openTime ++ leBytes 2 pauseTime ++ leBytes 1 cycles)
  | .readCleaningVolumes => some (0x17, [])
  | .startCalibration head target => some (0x18, leBytes 1 head ++ leBytes 4 target)
  | .enterActualVolume volume => some (0x19, leBytes 4 volume)
  | .endCalibration => some (0x1A, [])
  | .peekReports n => some (0x1B, leBytes 1 n)
  | .discardReports n => some (0x1C, leBytes 2 n)
  | .setReporting threshold => some (0x1D, leBytes 1 threshold)
  | .acknowledgeAlarms mask => some (0x1E, [mask])
  | .restart => some (0x1F, [])
  | .unknownRequest _ => none
  | .byteArrival _ => none
  | .gapTimerExpiry => none
  | .replySent => none
  | .encoderForwardStep => none
  | .encoderBackwardStep => none
  | .indexMarkStep => none
  | .quadratureError => none
  | .contactArrival _ => none
  | .contactLoss _ => none
  | .contactWindowExpiry _ => none
  | .pressurizeDwellExpiry _ => none
  | .settleExpiry _ => none
  | .sniftDwellExpiry _ => none
  | .ventDwellExpiry _ => none
  | .millisecondTick => none
  | .flowmeterPulse _ => none
  | .bankScan _ => none
  | .openPhaseExpiry => none
  | .pausePhaseExpiry => none
  | .valvePowerLoss => none
  | .valvePowerReturn => none
  | .productReadyChange _ => none
  | .powerOn _ => none
  | .resetLineAssert => none
  | .resetLineRelease _ => none

/-- The command that a word of the opcode table's bits spells: none, since no row of the table has bits
(Log 1). -/
def decodeTableWord (_nbits _w : Nat) : Option Instr := none

end Sys2Proof
end

