-- ==== Sys2Proof/Config.lean ====
section
/-! DEFINITION. The free values: what the spec leaves open and this model leaves open too. None has a body,
so no proof can see a value of one, and a claim holds for every value. -/

namespace Sys2Proof

/-- Whether, of an INFEED and a DISCHARGE arrival of equal distance raised by one crossing in DRAINING, the
INFEED is taken first. R8: arrivals of equal distance "carry no order among themselves". Applied to the
counter `State.choices`. DESIGN CHOICE, Log 11. -/
opaque Config.infeedFirst : Nat → Bool

/-- The rank by which the stuck-meter aborts of one scan are taken, lower first. R47: "the lanes of a scan
carry no order among themselves". Applied to the counter `State.choices` and the head. DESIGN CHOICE,
Log 13. -/
opaque Config.abortRank : Nat → HeadId → Nat

/-- What a read of the recipe of an EMPTY slot gives. R84: an EMPTY slot holds no recipe; R92 and R99 keep
every slot that a fill reads LOADED, so no run from reset reads it. DESIGN CHOICE, Log 14. -/
opaque Config.emptySlotRecipe : Recipe

end Sys2Proof
end

