-- ==== Sys2Proof/Machine/Ops.lean ====
section
/-! DEFINITION. The shared operations: the three kinds of quantity (00_scope, Arithmetic), the conversions at
the link (R67), and the reads and writes of the state's tables that every meaning goes through. -/

namespace Sys2Proof.Machine

/-! ### Quantities -/

/-- An unsigned saturating quantity of 32 bits (00_scope, Arithmetic). -/
def sat32 (n : Nat) : Nat := min n 4294967295

/-- An unsigned saturating quantity of 64 bits: a cleaning counter (R162, Log 17). -/
def sat64 (n : Nat) : Nat := min n 18446744073709551615

/-- A lead count or a fill duration: unsigned saturating, 16 bits (R7, R33). -/
def sat16 (n : Nat) : Nat := min n 65535

/-- A learned correction, held within -20,000,000..+20,000,000 nL (R70). -/
def clampCorrection (v : Int) : Int := max (-20000000) (min 20000000 v)

/-- An unsigned volume in nL as µL (R67). -/
def microlitres (nl : Nat) : Nat := (nl + 500) / 1000

/-- A signed volume in nL as µL: the magnitude's conversion, with its sign (R67). -/
def microlitresSigned (nl : Int) : Int :=
  if nl < 0 then -(microlitres nl.natAbs : Int) else (microlitres nl.natAbs : Int)

/-- A quotient rounded up (00_scope, Arithmetic: ceil). -/
def ceilDiv (n d : Nat) : Nat := (n + d - 1) / d

/-! ### Sets of heads -/

/-- Every head, in ascending order. -/
def allHeads : List HeadId := List.finRange 64

/-- The heads of a bank, in ascending lane order (R47). -/
def bankHeads (b : BankId) : List HeadId := allHeads.filter fun h => h.val / 16 = b.val

/-- Whether a head mask names a head (R178). -/
def inMask (mask : HeadMask) (h : HeadId) : Bool := mask.getLsbD h.val

/-! ### Reads and writes of the tables -/

/-- The record of a head. -/
def State.head (s : State) (h : HeadId) : Head := s.heads[h]

/-- Write the record of one head. -/
def State.putHead (s : State) (h : HeadId) (x : Head) : State := { s with heads := s.heads.set h x }

/-- Change the record of one head. -/
def State.updHead (s : State) (h : HeadId) (f : Head → Head) : State := s.putHead h (f (s.head h))

/-- What VD keeps for a head. -/
def State.output (s : State) (h : HeadId) : HeadOutputs := s.outputs[h]

/-- Write what VD keeps for one head. -/
def State.putOutput (s : State) (h : HeadId) (x : HeadOutputs) : State :=
  { s with outputs := s.outputs.set h x }

/-- The pulse counter and last sample of a head's lane. -/
def State.lane (s : State) (h : HeadId) : Lane := s.lanes[h]

/-- The valve profile a head names (R104). -/
def State.profileOf (s : State) (h : HeadId) : ValveProfile := s.profiles[(s.head h).profile]

/-- A recipe slot. -/
def State.slot (s : State) (k : SlotId) : Slot := s.slots[k]

/-- Write one recipe slot. -/
def State.putSlot (s : State) (k : SlotId) (x : Slot) : State := { s with slots := s.slots.set k x }

/-- The recipe of a slot, as it is read by heads and scans (R53, R85). An EMPTY slot has none: Log 14. -/
def State.recipe (s : State) (k : SlotId) : Recipe := (s.slot k).recipe.getD Config.emptySlotRecipe

/-- The correction entry of a head and a slot (R70). -/
def State.correction (s : State) (h : HeadId) (k : SlotId) : Int := (s.corrections[k])[h]

/-- Write one column of the Correction Table. -/
def State.putColumn (s : State) (k : SlotId) (col : Vector Int 64) : State :=
  { s with corrections := s.corrections.set k col }

/-- Write one correction entry, clamped (R70). -/
def State.putCorrection (s : State) (h : HeadId) (k : SlotId) (v : Int) : State :=
  s.putColumn k ((s.corrections[k]).set h (clampCorrection v))

/-- The level of a head's contact input (R22). -/
def State.contact (s : State) (h : HeadId) : Bool := s.pins.contacts[h]

/-- Record a level at a head's contact input. -/
def State.putContact (s : State) (h : HeadId) (level : Bool) : State :=
  { s with pins := { s.pins with contacts := s.pins.contacts.set h level } }

/-- Record a level at the valve power sense. -/
def State.putSense (s : State) (level : Bool) : State := { s with pins := { s.pins with valvePower := level } }

/-- How many of the 64 heads satisfy a condition on their record. -/
def State.countHeads (s : State) (p : Head → Bool) : Nat := allHeads.countP fun h => p (s.head h)

/-- Whether some head of the mask satisfies a condition on its record. -/
def State.anyIn (s : State) (mask : HeadMask) (p : Head → Bool) : Bool :=
  allHeads.any fun h => inMask mask h && p (s.head h)

/-- A head or a slot or a profile named by a field of a request, if it is in range (R178). -/
def inRange? (n k : Nat) : Option (Fin n) := if h : k < n then some ⟨k, h⟩ else none

/-! ### Modes and alarms -/

/-- Write the device mode. -/
def State.setMode (s : State) (m : Mode) : State := { s with mode := m }

/-- Whether the set of latched alarms holds an alarm (R146). -/
def Alarms.has (a : Alarms) : Alarm → Bool
  | .indexSlip => a.indexSlip
  | .encoderFault => a.encoderFault
  | .valvePowerLost => a.valvePowerLost
  | .reportOverflow => a.reportOverflow
  | .headLockout => a.headLockout

/-- The set with one alarm put in or taken out. -/
def Alarms.set (a : Alarms) (x : Alarm) (v : Bool) : Alarms :=
  match x with
  | .indexSlip => { a with indexSlip := v }
  | .encoderFault => { a with encoderFault := v }
  | .valvePowerLost => { a with valvePowerLost := v }
  | .reportOverflow => { a with reportOverflow := v }
  | .headLockout => { a with headLockout := v }

/-- Latch an alarm (R146). -/
def State.raise (s : State) (x : Alarm) : State := { s with alarms := s.alarms.set x true }

/-- The mode a service mode ends in (R142). -/
def State.afterService (s : State) : Mode := if s.tracker.status = .faulted then .halted else .standby

/-- Whether the configuration requests of R2, R18, R74 and R105 are accepted: in STANDBY and HALTED. -/
def Mode.configurable : Mode → Bool
  | .standby => true
  | .halted => true
  | .production => false
  | .draining => false
  | .cleaning => false
  | .calibration => false

/-- Whether the production cycle runs: in PRODUCTION and DRAINING (R9). -/
def Mode.producing : Mode → Bool
  | .production => true
  | .draining => true
  | .standby => false
  | .halted => false
  | .cleaning => false
  | .calibration => false

/-! ### Cycle states -/

/-- The fill stages (section 2.2). -/
def CycleState.isFillStage : CycleState → Bool
  | .fillSoft => true
  | .fillFast => true
  | .fillTopUp => true
  | .idle => false
  | .waitBottle => false
  | .skip => false
  | .pressurize => false
  | .closing => false
  | .snift => false
  | .done => false
  | .aborted => false
  | .cleanOpen => false
  | .cleanPause => false

/-- The in-flight states (section 2.2, R42). -/
def CycleState.inFlight : CycleState → Bool
  | .waitBottle => true
  | .pressurize => true
  | .fillSoft => true
  | .fillFast => true
  | .fillTopUp => true
  | .closing => true
  | .snift => true
  | .idle => false
  | .skip => false
  | .done => false
  | .aborted => false
  | .cleanOpen => false
  | .cleanPause => false

end Sys2Proof.Machine
end

