-- ==== Sys2Proof/Machine/Operands.lean ====
section
/-! DEFINITION. The checks and clamps of the operands of the requests: the ranges of the geometry record (R1),
of a recipe (R85, R86, R88), of a valve profile (R105), of a cleaning plan (R163) and of the other fields. -/

namespace Sys2Proof.Machine

/-- `lo..hi`, both included. -/
def between (lo hi n : Nat) : Bool := decide (lo ≤ n) && decide (n ≤ hi)

/-- The ranges of the geometry record and the order of its angles (R1). -/
def geometryInRange (g : Geometry) : Bool :=
  between 8 64 g.headCount && between 1024 65535 g.cpr && between 0 65535 g.zeroOffset &&
    between 0 65535 g.infeed && between 0 65535 g.latestClose && between 0 65535 g.discharge &&
    between 0 255 g.indexTolerance && between 0 4095 g.reverseTolerance && between 0 15 g.lockoutThreshold &&
    decide (g.infeed + 256 ≤ g.latestClose) && decide (g.latestClose + 256 ≤ g.discharge)

/-- The fields of the refused class lie in their ranges (R85, R86). -/
def recipeInRange (r : Recipe) : Bool :=
  between 10000 3000000 r.target && between 0 (r.target / 2) r.softStart &&
    between 0 (r.target - r.softStart) r.topUpBand && between 0 50000 r.toleranceBelow &&
    between 0 50000 r.toleranceAbove && between 10 2000 r.contactWindow && between 0 2000 r.pressurizeDwell &&
    between 5 1000 r.settleTime && between 0 2000 r.sniftDwell && between 5 1000 r.stuckWindow

/-- The recipe as stored: the fields of the clamped class brought into their ranges (R88). -/
def clampRecipe (r : Recipe) : Recipe :=
  { r with
    pulseCeiling := max 1 (min 1023 r.pulseCeiling)
    smoothing := min 4 r.smoothing
    gain := min 16 r.gain
    outlierLimit := min 20000 r.outlierLimit }

/-- One bit of a mask, at place `k`. -/
def maskBit (b : Bool) (k : Nat) : Nat := if b then 2 ^ k else 0

/-- The clamp mask of LOAD RECIPE: a mark for each field whose stored value differs from the one carried
(R88; the bits are those of R178). -/
def clampMask (r : Recipe) : Nat :=
  let t := clampRecipe r
  maskBit (t.pulseCeiling != r.pulseCeiling) 0 + maskBit (t.smoothing != r.smoothing) 1 +
    maskBit (t.gain != r.gain) 2 + maskBit (t.outlierLimit != r.outlierLimit) 3

/-- The polarity of a code (R178). -/
def polarityOfCode : Nat → Option Polarity
  | 0 => some .normal
  | 1 => some .inverted
  | _ => none

/-- The fast-stage drive of a code (R178). -/
def fastDriveOfCode : Nat → Option FastDrive
  | 0 => some .wideWithNarrow
  | 1 => some .wideAlone
  | _ => none

/-- The profile that the fields of SET VALVE PROFILE describe, if R105 accepts them. -/
def profileOfFields (f : ProfileFields) : Option ValveProfile :=
  match polarityOfCode f.gasPolarity, polarityOfCode f.widePolarity, polarityOfCode f.narrowPolarity,
    polarityOfCode f.sniftPolarity, fastDriveOfCode f.fastDrive with
  | some gas, some wide, some narrow, some snift, some drive =>
    if f.openLag ≤ 32767 ∧ f.closingLag ≤ 32767 then
      some ⟨f.openLag, f.closingLag, gas, wide, narrow, snift, drive⟩
    else none
  | _, _, _, _, _ => none

/-- A meter factor SET HEAD may carry: 0 (uncalibrated), or above the refused 1..199 (R17, R18). -/
def factorAllowed (factor : Nat) : Bool := decide (factor = 0) || decide (200 ≤ factor)

/-- The ranges of a cleaning plan (R163). -/
def planInRange (openTime pauseTime cycles : Nat) : Bool :=
  between 100 60000 openTime && between 0 60000 pauseTime && between 1 255 cycles

/-- A near-full threshold of R127. -/
def thresholdAllowed (n : Nat) : Bool := n == 192 || n == 208 || n == 224 || n == 240

end Sys2Proof.Machine
end

