-- ==== Sys2Proof/Machine/Flags.lean ====
section
/-! DEFINITION. The live conditions (R145), the flags byte of a fill, the codes of the enumerated fields
(R178, R179) and the condition and alarm word (R177). -/

namespace Sys2Proof.Machine

/-! ### Live conditions (R145) -/

/-- NEAR_FULL (R126). -/
def State.nearFull (s : State) : Bool := decide (s.reports.threshold ≤ s.reports.records.length)

/-- REFERENCED (R145). -/
def State.referenced (s : State) : Bool := decide (s.tracker.status = .referenced)

/-- Changeover pending (R145). -/
def State.changeoverPending (s : State) : Bool := decide (0 < s.pendingChangeovers)

/-! ### Codes (R177, R178, R179) -/

/-- The code of a mode (R177). -/
def Mode.code : Mode → Nat
  | .standby => 0
  | .production => 1
  | .draining => 2
  | .halted => 3
  | .cleaning => 4
  | .calibration => 5

/-- The code of a status (R179). -/
def Status.code : Status → Nat
  | .ok => 0
  | .unknownRequest => 1
  | .badLength => 2
  | .badField => 3
  | .wrongMode => 4
  | .geometryUnset => 5
  | .notReferenced => 6
  | .noValvePower => 7
  | .nothingEnabled => 8
  | .recipeMissing => 9
  | .slotEmpty => 10
  | .slotBound => 11
  | .headUncalibrated => 12
  | .noReservation => 13
  | .calState => 14
  | .calImplausible => 15

/-- The code of a polarity (R178). -/
def Polarity.code : Polarity → Nat
  | .normal => 0
  | .inverted => 1

/-- The code of a fast-stage drive (R178). -/
def FastDrive.code : FastDrive → Nat
  | .wideWithNarrow => 0
  | .wideAlone => 1

/-- The code of an enable state (R178). -/
def EnableState.code : EnableState → Nat
  | .disabled => 0
  | .enabled => 1
  | .lockedOut => 2

/-- The code of a cycle state (R178). -/
def CycleState.code : CycleState → Nat
  | .idle => 0
  | .waitBottle => 1
  | .skip => 2
  | .pressurize => 3
  | .fillSoft => 4
  | .fillFast => 5
  | .fillTopUp => 6
  | .closing => 7
  | .snift => 8
  | .done => 9
  | .aborted => 10
  | .cleanOpen => 11
  | .cleanPause => 12

/-- The code of a tracker state (R178). -/
def TrackerStatus.code : TrackerStatus → Nat
  | .unreferenced => 0
  | .referenced => 1
  | .faulted => 2

/-- The code of a CU state (R178). -/
def CalState.code : CalState → Nat
  | .idle => 0
  | .armed => 1
  | .dosing => 2
  | .awaitActual => 3

/-- The code of a calibration outcome (R178); 0 is none. -/
def CalOutcome.code : CalOutcome → Nat
  | .complete => 1
  | .overrange => 2
  | .tooSmall => 3
  | .abortedContact => 4
  | .abortedStuck => 5
  | .abandoned => 6
  | .factorWritten => 7

/-- The code of a cleaning result (R178). -/
def CleaningResult.code : CleaningResult → Nat
  | .none => 0
  | .running => 1
  | .complete => 2
  | .incomplete => 3

/-- The code of a verdict (R118). -/
def Verdict.code : Verdict → Nat
  | .accept => 0
  | .underfill => 1
  | .overfill => 2
  | .late => 3
  | .shortSnift => 4
  | .burst => 5
  | .meterStuck => 6
  | .meterFault => 7
  | .halted => 8
  | .unfilled => 9

/-- The flags byte of a fill (R178). -/
def FillFlags.code (f : FillFlags) : Nat :=
  maskBit f.late 0 + maskBit f.overrange 1 + maskBit f.learned 2 + maskBit f.outlier 3 + maskBit f.changeover 4

/-- The alarm set as ACKNOWLEDGE ALARMS shows it, bits 0 to 4 (R178). -/
def Alarms.code (a : Alarms) : Nat :=
  maskBit a.indexSlip 0 + maskBit a.encoderFault 1 + maskBit a.valvePowerLost 2 + maskBit a.reportOverflow 3 +
    maskBit a.headLockout 4

/-- The condition and alarm word (R177): the live conditions in bits 0 to 4, the latched alarms in bits 5 to
9, the pending-changeover count, held at 63, in bits 10 to 15. -/
def State.conditionWord (s : State) : Nat :=
  maskBit s.referenced 0 + maskBit s.valvePower 1 + maskBit s.productReady 2 + maskBit s.nearFull 3 +
    maskBit s.changeoverPending 4 + 32 * s.alarms.code + 1024 * min 63 s.pendingChangeovers

end Sys2Proof.Machine
end

