-- ==== Sys2Proof/Machine/Layout.lean ====
section
/-! DEFINITION. The byte layouts of what the D64 sends: the status summary (R177), the records of R178, R180 and
R181, and the frames with their check (R170, R173, R176). -/

namespace Sys2Proof.Machine

/-- The code of a slot field: 255 is none (R178). -/
def slotCode : Option SlotId → Nat
  | some k => k.val
  | none => 255

/-- The eight bytes of a head mask (R178). -/
def headMaskBytes (p : HeadId → Bool) : List Byte :=
  leBytes 8 (allHeads.foldr (fun h n => maskBit (p h) h.val + n) 0)

/-- The status summary (R177). -/
def State.summary (s : State) : List Byte :=
  leBytes 1 s.mode.code ++ leBytes 2 s.conditionWord ++ leBytes 2 s.reports.records.length

/-- The last result as the status record carries it: 18 bytes, absent fields 0, head 255 if no result is held
(R180). -/
def calResultBytes : Option CalResult → List Byte
  | none => leBytes 1 255 ++ leBytes 17 0
  | some r =>
    leBytes 1 r.head.val ++ leBytes 1 r.outcome.code ++ leBytes 4 r.pulses ++ leBytes 4 (microlitres r.measured) ++
      leBytes 4 (microlitres (r.actual.getD 0)) ++ leBytes 2 (r.oldFactor.getD 0) ++ leBytes 2 (r.newFactor.getD 0)

/-- The status record of READ STATUS (R180), 41 bytes. -/
def State.statusRecord (s : State) : List Byte :=
  leBytes 1 s.mode.code ++ leBytes 2 s.conditionWord ++ leBytes 1 s.inFlight ++ leBytes 1 s.pendingChangeovers ++
    headMaskBytes (fun h => decide ((s.head h).enable = .lockedOut)) ++ leBytes 1 s.tracker.status.code ++
    leBytes 4 s.reports.lost.toNat ++ leBytes 4 s.reports.sequence.toNat ++ leBytes 1 s.cal.state.code ++
    calResultBytes s.cal.last

/-- The part of the head record of READ HEAD that shows the fill context, 10 bytes (R181). -/
def fillBytes : Option FillContext → List Byte
  | none => leBytes 1 255 ++ leBytes 9 0
  | some c =>
    leBytes 1 c.slot.val ++ leBytes 4 (microlitres c.target) ++ leBytes 4 (microlitres c.delivered) ++
      leBytes 1 c.flags.code

/-- The head record of READ HEAD (R21, R181), 22 bytes. -/
def State.headRecord (s : State) (h : HeadId) : List Byte :=
  let x := s.head h
  leBytes 1 h.val ++ leBytes 1 x.enable.code ++ leBytes 1 x.profile.val ++ leBytes 2 x.factor ++
    leBytes 1 (slotCode x.active) ++ leBytes 1 (slotCode x.pendingSlot) ++ leBytes 1 x.faults ++
    leBytes 1 x.cycle.code ++ leBytes 1 (maskBit (s.contact h) 0) ++ leBytes 1 (maskBit x.contactSeen 0) ++
    leBytes 1 (maskBit x.fill.isSome 0) ++ fillBytes x.fill

/-- The ten bytes of a valve profile, its number first (R178). -/
def profileBytes (k : ProfileId) (p : ValveProfile) : List Byte :=
  leBytes 1 k.val ++ leBytes 2 p.openLag ++ leBytes 2 p.closingLag ++ leBytes 1 p.gas.code ++
    leBytes 1 p.wide.code ++ leBytes 1 p.narrow.code ++ leBytes 1 p.snift.code ++ leBytes 1 p.fastDrive.code

/-- The report record, 22 bytes (R181). -/
def Report.bytes (r : Report) : List Byte :=
  leBytes 4 r.sequence.toNat ++ leBytes 1 r.head.val ++ leBytes 1 (slotCode r.slot) ++ leBytes 1 r.verdict.code ++
    leBytes 1 r.flags.code ++ leBytes 3 r.finalVolume ++ leBytes 3 r.target ++ leSigned16 r.correction ++
    leBytes 2 r.duration ++ leBytes 4 r.lostBefore.toNat

/-- A cleaning counter in mL, a 32-bit value that holds at its maximum (R168). -/
def millilitres (nl : Nat) : Nat := sat32 (nl / 1000000)

/-- The cleaning record, 280 bytes (R168, R181). -/
def Cleaning.record (c : Cleaning) : List Byte :=
  let plan := c.plan.getD ⟨0, 0, 0⟩
  leBytes 1 c.result.code ++ leBytes 2 plan.openTime ++ leBytes 2 plan.pauseTime ++ leBytes 1 plan.cycles ++
    leBytes 1 c.cycle ++ leBytes 1 c.cyclesDone ++ headMaskBytes (fun h => c.driven[h]) ++
    headMaskBytes (fun h => c.noFlow[h]) ++ allHeads.flatMap fun h => leBytes 4 (millilitres c.counters[h])

/-- One byte into the CRC register, then eight shifts (R173). -/
def crcByte (r : BitVec 16) (b : Byte) : BitVec 16 :=
  shift 8 (r ^^^ ((b.zeroExtend 16) <<< 8))
where
  /-- `n` shifts, each with the exclusive-or of 0x1021 when the bit shifted out is 1. -/
  shift : Nat → BitVec 16 → BitVec 16
    | 0, r => r
    | n + 1, r => shift n (if r.msb then (r <<< 1) ^^^ 0x1021#16 else r <<< 1)

/-- The frame check over a list of bytes (R173). -/
def crc (bytes : List Byte) : BitVec 16 := bytes.foldl crcByte 0xFFFF#16

/-- The two check bytes, high byte first (R173). -/
def crcBytes (bytes : List Byte) : List Byte :=
  let c := crc bytes
  [(c >>> 8).truncate 8, c.truncate 8]

/-- A frame: the lead byte 0xC3, the body, and the check over the body (R170, R176). -/
def frameOf (body : List Byte) : List Byte := 0xC3#8 :: body ++ crcBytes body

/-- The request frame of R170. -/
def requestFrame (address code : Nat) (payload : List Byte) : List Byte :=
  frameOf (leBytes 1 address ++ leBytes 1 code ++ leBytes 2 payload.length ++ payload)

/-- The reply frame of R176, as it stands on the pair. -/
def Reply.frame (r : Reply) : List Byte :=
  frameOf (leBytes 1 (r.node + 128) ++ leBytes 1 r.code ++ leBytes 1 r.status.code ++ r.summary ++
    leBytes 2 r.payload.length ++ r.payload)

end Sys2Proof.Machine
end

