-- ==== Sys2Proof/Machine/Link.lean ====
section
/-! DEFINITION. How LI carries a request: the block's rule answers, LI reads the summary after it and starts the
reply (R175, R176). -/

namespace Sys2Proof.Machine

/-- What a block answers to a request: the status and the payload of the reply (R176). -/
structure Answer where
  status : Status
  payload : List Byte
  deriving DecidableEq, Repr

/-- The request is refused: no state changes, and the reply has no payload (R176, R179). -/
def refuse (st : Status) (s : State) : State × Answer := (s, ⟨st, []⟩)

/-- The request is accepted, with the state after it and the reply payload. -/
def accept (payload : List Byte) (s : State) : State × Answer := (s, ⟨.ok, payload⟩)

/-- LI without a frame: HUNT, no byte held, the gap timer stopped (R172, Log 6). -/
def Link.toHunt (l : Link) : Link := { l with rx := .hunt, buffer := [], gapRunning := false }

/-- LI in HUNT. -/
def State.toHunt (s : State) : State := { s with link := s.link.toHunt }

/-- LI starts the reply to a request with the given code: it reads the status summary of the state after the
request and goes to TRANSMITTING (R175, R176). -/
def reply (code : Nat) (r : State × Answer) : State :=
  { r.1 with
    link := { r.1.link with
      rx := .transmitting
      buffer := []
      gapRunning := false
      tx := some ⟨r.1.link.node.val, code, r.2.status, r.1.summary, r.2.payload⟩ } }

/-- A request row: a complete valid frame of the request, addressed to this node, has arrived (Log 3). While
the reset line is held the D64 takes no request (R150); while LI transmits, bytes are discarded (R172); a node
without an address takes no addressed request (R171, R174). -/
def transact (code : Nat) (body : State → State × Answer) (s : State) : State :=
  if s.pins.resetHeld then s
  else if s.link.rx = .transmitting then s
  else if s.link.node = 0 then s.toHunt
  else reply code (body s)

/-- An event of the part: none acts while the reset line is held (R150, Log 7). -/
def event (body : State → State) (s : State) : State := if s.pins.resetHeld then s else body s

end Sys2Proof.Machine
end

