-- ==== Sys2Proof/Machine/Corrections.lean ====
section
/-! DEFINITION. The Correction Table (chapter 4): the learning step, the clearing of a column, the edit
reservation and the four correction requests. -/

namespace Sys2Proof.Machine

/-- A column of corrections all 0 (R73, R83). -/
def zeroColumn : Vector Int 64 := Vector.replicate 64 0

/-- Remove the edit reservation if it names a slot (R73, R74). -/
def State.dropReservationOn (k : SlotId) (s : State) : State :=
  match s.reservation with
  | some (_, k') => if k' = k then { s with reservation := none } else s
  | none => s

/-- The column of a slot is cleared and the reservation acted on, at an accepted LOAD RECIPE or UNLOAD RECIPE
(R73). -/
def State.clearColumn (k : SlotId) (s : State) : State := (s.putColumn k zeroColumn).dropReservationOn k

/-- The error of a fill, e = V - T (R64). -/
def fillError (c : FillContext) : Int := (c.delivered : Int) - (c.target : Int)

/-- The outlier test (R71): |e| above the outlier limit. -/
def isOutlier (r : Recipe) (c : FillContext) : Bool := decide (r.outlierLimit * 1000 < (fillError c).natAbs)

/-- Eligibility for learning (R71). -/
def eligible (r : Recipe) (c : FillContext) : Bool :=
  !c.flags.overrange && !c.flags.late && decide (0 < r.gain) && !isOutlier r c

/-- The learning step, trunc(e × g / 16) (R71). -/
def learningStep (r : Recipe) (c : FillContext) : Int := Int.tdiv (fillError c * (r.gain : Int)) 16

/-- The context's flags after the learning step of a settle expiry (R71). -/
def learnedContext (r : Recipe) (c : FillContext) : FillContext :=
  { c with
    flags := { c.flags with
      outlier := c.flags.outlier || isOutlier r c
      learned := c.flags.learned || eligible r c } }

/-- The learning step at CT for the fill of a head (R71): an eligible fill adds its step to the value the entry
holds now, clamped, and removes the reservation if it names this entry. -/
def State.learn (h : HeadId) (c : FillContext) (s : State) : State :=
  let r := s.recipe c.slot
  if eligible r c then
    { s.putCorrection h c.slot (s.correction h c.slot + learningStep r c) with
      reservation := if s.reservation = some (h, c.slot) then none else s.reservation }
  else s

/-- READ CORRECTIONS at CT (R75). -/
def readCorrections (slot : Nat) (s : State) : State × Answer :=
  match inRange? 8 slot with
  | some k => accept (allHeads.flatMap fun h => leSigned16 (microlitresSigned (s.correction h k))) s
  | none => refuse .badField s

/-- READ CORRECTION FOR EDIT at CT (R77). -/
def readCorrectionForEdit (head slot : Nat) (s : State) : State × Answer :=
  match inRange? 64 head, inRange? 8 slot with
  | some h, some k =>
    if (s.slot k).recipe.isSome then
      accept (leSigned16 (microlitresSigned (s.correction h k))) { s with reservation := some (h, k) }
    else refuse .slotEmpty s
  | _, _ => refuse .badField s

/-- WRITE CORRECTION at CT (R77): the reservation is removed either way, and either reply carries the value the
entry holds after the request. -/
def writeCorrection (head slot : Nat) (value : Int) (s : State) : State × Answer :=
  match inRange? 64 head, inRange? 8 slot with
  | some h, some k =>
    let granted := decide (s.reservation = some (h, k))
    let written := if granted then s.putCorrection h k (value * 1000) else s
    ({ written with reservation := none },
      ⟨if granted then .ok else .noReservation, leSigned16 (microlitresSigned (written.correction h k))⟩)
  | _, _ => refuse .badField s

/-- How many of 64 values in µL the clamp of R70 changes (R74). -/
def clampedCount (values : Vector Int 64) : Nat :=
  allHeads.countP fun h => clampCorrection (values[h] * 1000) != values[h] * 1000

/-- RESTORE CORRECTIONS at CT (R74). -/
def restoreCorrections (slot : Nat) (values : Vector Int 64) (s : State) : State × Answer :=
  if s.mode.configurable then
    match inRange? 8 slot with
    | some k =>
      if (s.slot k).recipe.isSome then
        accept (leBytes 1 (clampedCount values))
          ((s.putColumn k (Vector.ofFn fun h : HeadId => clampCorrection (values[h] * 1000))).dropReservationOn k)
      else refuse .slotEmpty s
    | none => refuse .badField s
  else refuse .wrongMode s

/-- The row READ_CORRECTIONS (R75). -/
def execReadCorrections (slot : Nat) (s : State) : Host.Outcome State Fault Refusal :=
  .next (transact 0x0E (readCorrections slot) s)

/-- The row READ_CORRECTION_FOR_EDIT (R77). -/
def execReadCorrectionForEdit (head slot : Nat) (s : State) : Host.Outcome State Fault Refusal :=
  .next (transact 0x0F (readCorrectionForEdit head slot) s)

/-- The row WRITE_CORRECTION (R77). -/
def execWriteCorrection (head slot : Nat) (value : Int) (s : State) : Host.Outcome State Fault Refusal :=
  .next (transact 0x10 (writeCorrection head slot value) s)

/-- The row RESTORE_CORRECTIONS (R74). -/
def execRestoreCorrections (slot : Nat) (values : Vector Int 64) (s : State) :
    Host.Outcome State Fault Refusal :=
  .next (transact 0x11 (restoreCorrections slot values) s)

end Sys2Proof.Machine
end

