-- ==== Sys2Proof/Machine/Dose.lean ====
section
/-! DEFINITION. The dose arithmetic of chapter 3, on one fill context: the metering of a scan (R49, R55, R56),
the stuck-meter bookkeeping (R57, R58), the afterflow prediction and the decisions (R59 to R61), and the
verdict by volume (R65, R66). -/

namespace Sys2Proof.Machine

/-- The delta used: the raw delta, clamped to the pulse ceiling (R49). -/
def deltaUsed (r : Recipe) (raw : Nat) : Nat := min raw r.pulseCeiling

/-- The increment I = delta used × meter factor, in nL (R55). -/
def increment (r : Recipe) (raw : Nat) (c : FillContext) : Nat := deltaUsed r raw * c.factor

/-- The flow estimate after a scan: F + floor((I - F) / 2^k) (R56). -/
def nextFlow (k : Nat) (inc flow : Nat) : Nat :=
  ((flow : Int) + ((inc : Int) - (flow : Int)) / ((2 ^ k : Nat) : Int)).toNat

/-- The metering of one scan: overrange flag, delivered volume and flow estimate (R49, R55, R56). -/
def meterContext (r : Recipe) (raw : Nat) (c : FillContext) : FillContext :=
  { c with
    delivered := sat32 (c.delivered + increment r raw c)
    flow := nextFlow r.smoothing (increment r raw c) c.flow
    flags := { c.flags with overrange := c.flags.overrange || decide (r.pulseCeiling < raw) } }

/-- The stuck limit of a fill, in scans (R53). -/
def stuckLimit (r : Recipe) : Nat := ceilDiv (r.stuckWindow * 1000) 256

/-- The grace and zero-scan bookkeeping of a scan in a fill stage (R57). -/
def stuckContext (used : Nat) (c : FillContext) : FillContext :=
  if 0 < c.grace then { c with grace := c.grace - 1 }
  else { c with zeroScans := if used = 0 then c.zeroScans + 1 else 0 }

/-- Whether this scan brings the zero-scan count to the stuck limit (R58), judged on the context before R57. -/
def stuckNow (r : Recipe) (used : Nat) (c : FillContext) : Bool :=
  decide (c.grace = 0) && decide (used = 0) && decide (stuckLimit r ≤ c.zeroScans + 1)

/-- The predicted afterflow A = floor(F × L / 256), saturating (R59). -/
def afterflow (c : FillContext) : Nat := sat32 (c.flow * c.closingLag / 256)

/-- The remaining volume R = E - D, held at 0 (R60). -/
def remaining (c : FillContext) : Nat := c.closeTarget - c.delivered

/-- What DE hands a head at a scan (R29, R58, R61). -/
inductive Decision where
  | stay
  | close
  | toTopUp
  | toFast
  | abortStuck
  deriving DecidableEq, Repr

/-- The stage and close decision of a scan in a fill stage, the first that holds in the order of R61. -/
def stageDecision (r : Recipe) (stage : CycleState) (c : FillContext) : Decision :=
  if remaining c ≤ afterflow c then .close
  else if stage = .fillFast ∧ remaining c ≤ r.topUpBand * 1000 then .toTopUp
  else if stage = .fillSoft ∧ r.softStart * 1000 ≤ c.delivered then .toFast
  else .stay

/-- What one scan makes of a metered fill: its context and the decision (R50, R62). -/
structure LaneWork where
  context : FillContext
  decision : Decision
  deriving DecidableEq, Repr

/-- The work of one scan on a metered fill (R50): in CLOSING the metering alone (R62); in a fill stage also the
stuck-meter bookkeeping, and unless it aborts the fill, the decision of R61. -/
def scanFill (r : Recipe) (stage : CycleState) (raw : Nat) (c : FillContext) : LaneWork :=
  let m := meterContext r raw c
  if stage.isFillStage then
    let used := deltaUsed r raw
    let k := stuckContext used m
    if stuckNow r used m then ⟨k, .abortStuck⟩ else ⟨k, stageDecision r stage k⟩
  else ⟨m, .stay⟩

/-- V lies below the lower bound (R66). -/
def belowBand (r : Recipe) (c : FillContext) : Bool :=
  decide (c.delivered + r.toleranceBelow * 1000 < c.target)

/-- V lies above the upper bound (R66). -/
def aboveBand (r : Recipe) (c : FillContext) : Bool :=
  decide (c.target + r.toleranceAbove * 1000 < c.delivered)

/-- The verdict at the snift dwell expiry: conditions 5 to 8 of R65. -/
def volumeVerdict (r : Recipe) (c : FillContext) : Verdict :=
  if c.flags.overrange then .meterFault
  else if belowBand r c then (if c.flags.late then .late else .underfill)
  else if aboveBand r c then (if c.flags.late then .late else .overfill)
  else .accept

/-- The effective close target E = T - C_used, clamped into 0..4,294,967,295 (R52). -/
def closeTargetOf (target : Nat) (correction : Int) : Nat := sat32 ((target : Int) - correction).toNat

/-- The grace scans of an open lag in µs (R51). -/
def graceScans (openLag : Nat) : Nat := ceilDiv openLag 256

/-- The fill duration in ms at a close (R33). -/
def fillDuration (clock start : BitVec 32) : Nat := sat16 (clock - start).toNat

end Sys2Proof.Machine
end

