-- ==== Sys2Proof/Machine/Recipes.lean ====
section
/-! DEFINITION. The Recipe Table (chapter 5): the binding counts, the changeover, and the requests LOAD, READ,
UNLOAD and BIND RECIPE. -/

namespace Sys2Proof.Machine

/-- Whether a head names a slot, as active or as pending (R92). -/
def Head.names (x : Head) (k : SlotId) : Bool :=
  decide (x.active = some k) || decide (x.pendingSlot = some k)

/-- 1 for true, 0 for false: one head's share of a count. -/
def one (b : Bool) : Nat := if b then 1 else 0

/-- A head's active and pending slots change; each event adds one to the count of every slot the head comes to
name and takes one from every slot it ceases to name (R92), and the pending-changeover count follows
(R93). -/
def State.assignSlots (h : HeadId) (active pendingSlot : Option SlotId) (s : State) : State :=
  let old := s.head h
  let new := { old with active := active, pendingSlot := pendingSlot }
  { s.putHead h new with
    slots := Vector.ofFn fun k : SlotId =>
      { s.slot k with bindings := (s.slot k).bindings + one (new.names k) - one (old.names k) }
    pendingChangeovers := s.pendingChangeovers + one new.pendingSlot.isSome - one old.pendingSlot.isSome }

/-- The changeover of a head at a PRESSURIZE entry (R99): a pending slot becomes the active slot. -/
def State.adopt (h : HeadId) (s : State) : State :=
  match (s.head h).pendingSlot with
  | some p => s.assignSlots h (some p) none
  | none => s

/-- LOAD RECIPE at RT (R87, R88). -/
def loadRecipe (slot : Nat) (recipe : Recipe) (s : State) : State × Answer :=
  match inRange? 8 slot with
  | none => refuse .badField s
  | some k =>
    if 0 < (s.slot k).bindings then refuse .slotBound s
    else if recipeInRange recipe then
      accept (leBytes 1 (clampMask recipe))
        ((s.putSlot k { s.slot k with recipe := some (clampRecipe recipe) }).clearColumn k)
    else refuse .badField s

/-- READ RECIPE at RT (R91). -/
def readRecipe (slot : Nat) (s : State) : State × Answer :=
  match inRange? 8 slot with
  | none => refuse .badField s
  | some k =>
    match (s.slot k).recipe with
    | some r => accept (leBytes 1 k.val ++ leBytes 1 1 ++ leBytes 1 (s.slot k).bindings ++ r.encode) s
    | none => accept (leBytes 1 k.val ++ leBytes 1 0 ++ leBytes 1 (s.slot k).bindings) s

/-- UNLOAD RECIPE at RT (R90). -/
def unloadRecipe (slot : Nat) (s : State) : State × Answer :=
  match inRange? 8 slot with
  | none => refuse .badField s
  | some k =>
    if 0 < (s.slot k).bindings then refuse .slotBound s
    else accept [] ((s.putSlot k { s.slot k with recipe := none }).clearColumn k)

/-- A BIND of one head that acts at once (R95). -/
def bindNow (target : Option SlotId) (s : State) (h : HeadId) : State := s.assignSlots h target none

/-- A BIND of one head that is held pending until its next PRESSURIZE entry (R96). -/
def bindLater (k : SlotId) (s : State) (h : HeadId) : State :=
  let x := s.head h
  if x.active = some k then s.assignSlots h (some k) none else s.assignSlots h x.active (some k)

/-- What an accepted BIND RECIPE does to one named head, by mode (R95 to R98). -/
def bindHead (target : Option SlotId) (s : State) (h : HeadId) : State :=
  match target with
  | none => bindNow none s h
  | some k =>
    match s.mode with
    | .standby => bindNow (some k) s h
    | .halted => bindNow (some k) s h
    | .cleaning => bindNow (some k) s h
    | .production => bindLater k s h
    | .draining => bindLater k s h
    | .calibration => if (s.head h).fill.isSome then bindLater k s h else bindNow (some k) s h

/-- BIND RECIPE on every head of the mask. -/
def bindMask (mask : HeadMask) (target : Option SlotId) (s : State) : State :=
  (allHeads.filter (inMask mask)).foldl (bindHead target) s

/-- Whether the mask names a head at or above a head count N that is not 0 (R19, R94). -/
def namesBeyond (mask : HeadMask) (s : State) : Bool :=
  decide (s.tracker.geometry.headCount ≠ 0) &&
    allHeads.any fun h => inMask mask h && decide (s.tracker.geometry.headCount ≤ h.val)

/-- Whether the mask names a head that must keep a recipe: ENABLED, filling, or under calibration (R94,
condition 4). -/
def namesNeedful (mask : HeadMask) (s : State) : Bool :=
  allHeads.any fun h => inMask mask h &&
    (decide ((s.head h).enable = .enabled) || (s.head h).fill.isSome ||
      (decide (s.cal.state ≠ .idle) && decide (s.cal.head = some h)))

/-- BIND RECIPE at RT (R94). -/
def bindRecipe (mask : HeadMask) (slot : Nat) (s : State) : State × Answer :=
  match inRange? 8 slot with
  | some k =>
    if namesBeyond mask s then refuse .badField s
    else if (s.slot k).recipe.isNone then refuse .slotEmpty s
    else accept [] (bindMask mask (some k) s)
  | none =>
    if slot = 255 then
      if namesNeedful mask s then refuse .recipeMissing s else accept [] (bindMask mask none s)
    else refuse .badField s

/-- The row LOAD_RECIPE (R87). -/
def execLoadRecipe (slot : Nat) (recipe : Recipe) (s : State) : Host.Outcome State Fault Refusal :=
  .next (transact 0x0A (loadRecipe slot recipe) s)

/-- The row READ_RECIPE (R91). -/
def execReadRecipe (slot : Nat) (s : State) : Host.Outcome State Fault Refusal :=
  .next (transact 0x0B (readRecipe slot) s)

/-- The row UNLOAD_RECIPE (R90). -/
def execUnloadRecipe (slot : Nat) (s : State) : Host.Outcome State Fault Refusal :=
  .next (transact 0x0C (unloadRecipe slot) s)

/-- The row BIND_RECIPE (R94). -/
def execBindRecipe (mask : HeadMask) (slot : Nat) (s : State) : Host.Outcome State Fault Refusal :=
  .next (transact 0x0D (bindRecipe mask slot) s)

end Sys2Proof.Machine
end

