-- ==== Sys2Proof/Machine/Reports.lean ====
section
/-! DEFINITION. The Report Queue (chapter 7): numbering, storing and losing a record, and the requests SET
REPORTING, PEEK REPORTS and DISCARD REPORTS. -/

namespace Sys2Proof.Machine

/-- The records the queue can hold (R121). -/
def queueCapacity : Nat := 256

/-- RQ numbers a record (R120) and stores it with its lost-before count (R121), or counts it as lost and raises
REPORT_OVERFLOW (R122). The record's own sequence and lost-before fields are not read. -/
def State.fileReport (s : State) (content : Report) : State :=
  let q := s.reports
  if q.records.length < queueCapacity then
    { s with
      reports := { q with
        records := q.records ++ [{ content with sequence := q.sequence, lostBefore := q.lost }]
        sequence := q.sequence + 1
        lost := 0 } }
  else
    { s with reports := { q with sequence := q.sequence + 1, lost := q.lost + 1 } }.raise .reportOverflow

/-- SET REPORTING at RQ (R127). -/
def setReporting (threshold : Nat) (s : State) : State × Answer :=
  if thresholdAllowed threshold then
    accept (leBytes 1 threshold ++ leBytes 2 s.reports.records.length)
      { s with reports := { s.reports with threshold := threshold } }
  else refuse .badField s

/-- PEEK REPORTS at RQ (R128). -/
def peekReports (n : Nat) (s : State) : State × Answer :=
  if between 1 16 n then
    let out := s.reports.records.take n
    accept (leBytes 1 out.length ++ out.flatMap Report.bytes) s
  else refuse .badField s

/-- DISCARD REPORTS at RQ (R129). -/
def discardReports (n : Nat) (s : State) : State × Answer :=
  if n ≤ 256 then
    accept (leBytes 2 (min n s.reports.records.length))
      { s with reports := { s.reports with records := s.reports.records.drop n } }
  else refuse .badField s

/-- The row SET_REPORTING (R127). -/
def execSetReporting (threshold : Nat) (s : State) : Host.Outcome State Fault Refusal :=
  .next (transact 0x1D (setReporting threshold) s)

/-- The row PEEK_REPORTS (R128). -/
def execPeekReports (n : Nat) (s : State) : Host.Outcome State Fault Refusal :=
  .next (transact 0x1B (peekReports n) s)

/-- The row DISCARD_REPORTS (R129). -/
def execDiscardReports (n : Nat) (s : State) : Host.Outcome State Fault Refusal :=
  .next (transact 0x1C (discardReports n) s)

end Sys2Proof.Machine
end

