-- ==== Sys2Proof/Machine/Valves.lean ====
section
/-! DEFINITION. The Valve Driver (chapter 6): the open set of a head, the terminal levels, and the requests
SET VALVE PROFILE and READ VALVE PROFILE. -/

namespace Sys2Proof.Machine

/-- The open set of a head as a function of its cycle state, its vent flag and the fast-stage drive of its
profile (R107). -/
def openSet (cycle : CycleState) (vent : Bool) (drive : FastDrive) : Outputs :=
  match cycle with
  | .pressurize => { Outputs.allOff with gas := true }
  | .fillSoft => { Outputs.allOff with narrow := true }
  | .fillFast => { Outputs.allOff with wide := true, narrow := decide (drive = .wideWithNarrow) }
  | .fillTopUp => { Outputs.allOff with narrow := true }
  | .snift => { Outputs.allOff with snift := true }
  | .aborted => { Outputs.allOff with snift := vent }
  | .cleanOpen => { Outputs.allOff with wide := true, narrow := true }
  | .idle => Outputs.allOff
  | .waitBottle => Outputs.allOff
  | .skip => Outputs.allOff
  | .closing => Outputs.allOff
  | .done => Outputs.allOff
  | .cleanPause => Outputs.allOff

/-- First half of a derivation: every output of the old open set that is not in the new one is CLOSED
(R108). -/
def closeOld (old new : Outputs) : Outputs :=
  ⟨old.gas && new.gas, old.wide && new.wide, old.narrow && new.narrow, old.snift && new.snift⟩

/-- Second half of a derivation: every output of the new open set is OPEN (R108). -/
def openNew (mid new : Outputs) : Outputs :=
  ⟨mid.gas || new.gas, mid.wide || new.wide, mid.narrow || new.narrow, mid.snift || new.snift⟩

/-- The level of one terminal while POWERED: ENERGIZED when exactly one of OPEN and INVERTED holds (R109). -/
def terminal (isOpen : Bool) (p : Polarity) : Bool := isOpen != decide (p = .inverted)

/-- The terminal levels of a head (R109); all UNENERGIZED while UNPOWERED (R111, R112). -/
def terminalsOf (drive : DriveState) (p : ValveProfile) (o : Outputs) : Outputs :=
  match drive with
  | .unpowered => Outputs.allOff
  | .powered =>
    ⟨terminal o.gas p.gas, terminal o.wide p.wide, terminal o.narrow p.narrow, terminal o.snift p.snift⟩

/-- What VD keeps for a head after a derivation of its open set (R108, R109): the old outputs close before the
new ones open; the levels between are not kept (Log 22). -/
def derived (drive : DriveState) (p : ValveProfile) (x : Head) (o : HeadOutputs) : HeadOutputs :=
  let new := openSet x.cycle o.vent p.fastDrive
  let opened := openNew (closeOld o.opened new) new
  { o with opened := opened, terminals := terminalsOf drive p opened }

/-- VD derives the open set and the terminal levels of one head (R108, R109). -/
def State.deriveOutputs (h : HeadId) (s : State) : State :=
  s.putOutput h (derived s.drive (s.profileOf h) (s.head h) (s.output h))

/-- HS sets or clears the vent flag of a head; VD derives its outputs (R108). -/
def State.setVent (h : HeadId) (v : Bool) (s : State) : State :=
  (s.putOutput h { s.output h with vent := v }).deriveOutputs h

/-- VD derives the terminal levels of one head from the open set it holds (R109, R112). -/
def State.deriveTerminals (h : HeadId) (s : State) : State :=
  let o := s.output h
  s.putOutput h { o with terminals := terminalsOf s.drive (s.profileOf h) o.opened }

/-- VD derives the terminal levels of every head that satisfies a condition (R105, R113). -/
def State.deriveTerminalsWhere (p : Head → Bool) (s : State) : State :=
  { s with
    outputs := Vector.ofFn fun h : HeadId =>
      if p (s.head h) then
        { s.output h with terminals := terminalsOf s.drive (s.profileOf h) (s.output h).opened }
      else s.output h }

/-- Every terminal of every head to UNENERGIZED (R111, R150). -/
def State.dropTerminals (s : State) : State :=
  { s with outputs := Vector.ofFn fun h : HeadId => { s.output h with terminals := Outputs.allOff } }

/-- SET VALVE PROFILE at VD (R105). -/
def setValveProfile (profile : Nat) (fields : ProfileFields) (s : State) : State × Answer :=
  if s.mode.configurable then
    match inRange? 8 profile, profileOfFields fields with
    | some k, some p =>
      accept [] ({ s with profiles := s.profiles.set k p }.deriveTerminalsWhere fun x => decide (x.profile = k))
    | _, _ => refuse .badField s
  else refuse .wrongMode s

/-- READ VALVE PROFILE at VD (R106). -/
def readValveProfile (profile : Nat) (s : State) : State × Answer :=
  match inRange? 8 profile with
  | some k =>
    accept (profileBytes k s.profiles[k] ++ leBytes 1 (s.countHeads fun x => decide (x.profile = k))) s
  | none => refuse .badField s

/-- The row SET_VALVE_PROFILE (R105). -/
def execSetValveProfile (profile : Nat) (fields : ProfileFields) (s : State) : Host.Outcome State Fault Refusal :=
  .next (transact 0x04 (setValveProfile profile fields) s)

/-- The row READ_VALVE_PROFILE (R106). -/
def execReadValveProfile (profile : Nat) (s : State) : Host.Outcome State Fault Refusal :=
  .next (transact 0x05 (readValveProfile profile) s)

end Sys2Proof.Machine
end

