-- ==== Sys2Proof/Machine/HeadOps.lean ====
section
/-! DEFINITION. The shared operations of the head cycle (chapter 2): entering a state, creating a report,
counting faults, ending DRAINING, the entries to the fill states, and ending a calibration run. -/

namespace Sys2Proof.Machine

/-! ### Transitions -/

/-- A head takes a new cycle state with its timer: the in-flight count follows (R42) and VD derives the head's
outputs (R108). A timer of the state left is cancelled (R22). -/
def State.enter (h : HeadId) (cycle : CycleState) (timer : Option Timer) (s : State) : State :=
  let old := s.head h
  State.deriveOutputs h
    { s.putHead h { old with cycle := cycle, timer := timer } with
      inFlight := s.inFlight + one cycle.inFlight - one old.cycle.inFlight }

/-- A head with no dynamic part: IDLE, no timer, no fill context, contact seen clear (R43, R44, R45). -/
def Head.cleared (x : Head) : Head := { x with cycle := .idle, contactSeen := false, timer := none, fill := none }

/-- A head goes to IDLE: contact seen, fill context and vent go with its pass. -/
def State.goIdle (h : HeadId) (s : State) : State :=
  State.enter h .idle none
    ((s.updHead h fun x => { x with contactSeen := false, fill := none }).putOutput h
      { s.output h with vent := false })

/-- Every head to IDLE with nothing running, every output closed, no head in flight (R43, R44). -/
def State.clearHeads (s : State) : State :=
  { s with
    heads := Vector.ofFn fun h : HeadId => (s.head h).cleared
    outputs := Vector.ofFn fun h : HeadId =>
      derived s.drive (s.profileOf h) (s.head h).cleared { s.output h with vent := false }
    inFlight := 0 }

/-! ### Reports and fault counting -/

/-- The content of a fill report (R40); RQ adds sequence and lost before. -/
def fillReport (h : HeadId) (c : FillContext) (v : Verdict) : Report where
  sequence := 0
  head := h
  slot := some c.slot
  verdict := v
  flags := c.flags
  finalVolume := microlitres c.delivered
  target := microlitres c.target
  correction := microlitresSigned c.correction
  duration := c.duration
  lostBefore := 0

/-- The content of an UNFILLED report (R40). -/
def unfilledReport (h : HeadId) (active : Option SlotId) : Report where
  sequence := 0
  head := h
  slot := active
  verdict := .unfilled
  flags := FillFlags.clear
  finalVolume := 0
  target := 0
  correction := 0
  duration := 0
  lostBefore := 0

/-- What a verdict does to the consecutive fault count (R41). -/
def nextFaults (v : Verdict) (n : Nat) : Nat :=
  match v with
  | .meterStuck => min 15 (n + 1)
  | .meterFault => min 15 (n + 1)
  | .underfill => min 15 (n + 1)
  | .overfill => min 15 (n + 1)
  | .late => min 15 (n + 1)
  | .accept => 0
  | .shortSnift => n
  | .burst => n
  | .halted => n
  | .unfilled => n

/-- The verdicts that increase the consecutive fault count (R41). -/
def Verdict.isFaulty : Verdict → Bool
  | .meterStuck => true
  | .meterFault => true
  | .underfill => true
  | .overfill => true
  | .late => true
  | .accept => false
  | .shortSnift => false
  | .burst => false
  | .halted => false
  | .unfilled => false

/-- Whether a report of this verdict locks the head out (R41). A fault verdict at a count already held at 15 counts as
an increase (the spec is silent; DESIGN CHOICE, Log 24). -/
def locksOut (threshold : Nat) (v : Verdict) (x : Head) : Bool :=
  v.isFaulty && decide (threshold ≠ 0) && decide (threshold ≤ nextFaults v x.faults) &&
    decide (x.enable = .enabled)

/-- The head updates its consecutive fault count by the verdict, and is locked out at the threshold (R41). -/
def State.countFault (h : HeadId) (v : Verdict) (s : State) : State :=
  let x := s.head h
  let counted := { x with faults := nextFaults v x.faults }
  if locksOut s.tracker.geometry.lockoutThreshold v x then
    (s.putHead h { counted with enable := .lockedOut }).raise .headLockout
  else s.putHead h counted

/-- A head creates the report of its fill: hand-over, removal of the context, fault count (R40). With no
context there is no fill to report (Log 15). -/
def State.reportFill (h : HeadId) (v : Verdict) (s : State) : State :=
  match (s.head h).fill with
  | none => s
  | some c => State.countFault h v ((s.fileReport (fillReport h c v)).updHead h fun x => { x with fill := none })

/-- A head creates an UNFILLED report (R26, R40). -/
def State.reportUnfilled (h : HeadId) (s : State) : State :=
  State.countFault h .unfilled (s.fileReport (unfilledReport h (s.head h).active))

/-- The UNFILLED report of a head in SKIP with contact seen (R43, R44). -/
def State.reportSkipped (h : HeadId) (s : State) : State :=
  let x := s.head h
  if x.cycle = .skip ∧ x.contactSeen = true then s.reportUnfilled h else s

/-! ### The end of DRAINING -/

/-- MC ends DRAINING (R138): STANDBY, then HS acts on every head as R43 states, the reports in ascending head
order (R124). -/
def State.endDraining (s : State) : State :=
  (allHeads.foldl (fun t h => t.reportSkipped h) (s.setMode .standby)).clearHeads

/-- MC judges the in-flight count in DRAINING (R138). -/
def State.judgeDrain (s : State) : State :=
  if s.mode = .draining ∧ s.inFlight = 0 then s.endDraining else s

/-- A head in flight takes a state out of flight: after the transition MC judges the end of DRAINING (R138). -/
def State.leaveFlight (h : HeadId) (cycle : CycleState) (timer : Option Timer) (s : State) : State :=
  (s.enter h cycle timer).judgeDrain

/-- A head in flight goes to IDLE, and MC judges the end of DRAINING (R138). -/
def State.leaveToIdle (h : HeadId) (s : State) : State := (s.goIdle h).judgeDrain

/-! ### The fill -/

/-- The target T of a fill in nL: the recipe's, or in CALIBRATION the calibration target (R51). -/
def State.fillTarget (s : State) (k : SlotId) : Nat :=
  if s.mode = .calibration then s.cal.target.getD 0 * 1000 else (s.recipe k).target * 1000

/-- The fill context latched at a PRESSURIZE entry of a head on its active slot (R51, R52). -/
def State.latchContext (h : HeadId) (k : SlotId) (changeover : Bool) (s : State) : FillContext :=
  let p := s.profileOf h
  { slot := k
    target := s.fillTarget k
    correction := s.correction h k
    closeTarget := closeTargetOf (s.fillTarget k) (s.correction h k)
    closingLag := p.closingLag
    factor := (s.head h).factor
    delivered := 0
    flow := 0
    zeroScans := 0
    grace := graceScans p.openLag
    startTime := s.clock
    duration := 0
    flags := { FillFlags.clear with changeover := changeover } }

/-- PRESSURIZE entry (R27): changeover, latching, pressurize dwell. A dwell of 0 ms takes the head to FILL_SOFT
within the entry (R28). A head without a slot has no fill to begin (Log 15). -/
def State.enterPressurize (h : HeadId) (s : State) : State :=
  let t := s.adopt h
  match (t.head h).active with
  | none => s
  | some k =>
    let c := t.latchContext h k (s.head h).pendingSlot.isSome
    let dwell := (t.recipe k).pressurizeDwell
    let u := t.updHead h fun x => { x with fill := some c }
    if dwell = 0 then u.enter h .fillSoft none else u.enter h .pressurize (some ⟨.pressurizeDwell, dwell⟩)

/-- Entry to CLOSING, the close command of a fill (R33). -/
def State.enterClosing (h : HeadId) (late : Bool) (s : State) : State :=
  match (s.head h).fill with
  | none => s
  | some c =>
    let closed := { c with
      duration := fillDuration s.clock c.startTime
      flags := { c.flags with late := c.flags.late || late } }
    (s.updHead h fun x => { x with fill := some closed }).enter h .closing
      (some ⟨.settle, (s.recipe c.slot).settleTime⟩)

/-- The head gives its fill up with a report and vents the bottle (R39): the vent dwell is the snift dwell of
the fill's slot, read before the context is removed; a dwell of 0 ms gives no vent. -/
def State.abortFill (h : HeadId) (v : Verdict) (s : State) : State :=
  match (s.head h).fill with
  | none => s
  | some c =>
    let dwell := (s.recipe c.slot).sniftDwell
    let t := s.reportFill h v
    let u := t.putOutput h { t.output h with vent := decide (dwell ≠ 0) }
    u.leaveFlight h .aborted (if dwell = 0 then none else some ⟨.vent, dwell⟩)

/-- A fill ends with a report of the given verdict and the head goes to IDLE (R36, R37). -/
def State.endFill (h : HeadId) (v : Verdict) (s : State) : State := (s.reportFill h v).leaveToIdle h

/-! ### Calibration runs (chapter 9) -/

/-- The last result of a run that ends with an outcome: Vm is D, the pulses D div the meter factor (R152,
R156, R157). -/
def runResult (h : HeadId) (o : CalOutcome) (c : FillContext) : CalResult :=
  ⟨h, o, c.delivered / c.factor, c.delivered, none, none, none⟩

/-- A run ends: CU writes its result and takes a state, and the head goes to IDLE (R156, R157). -/
def State.endRun (h : HeadId) (o : CalOutcome) (next : CalState) (s : State) : State :=
  match (s.head h).fill with
  | none => s
  | some c => { s.goIdle h with cal := { s.cal with state := next, last := some (runResult h o c) } }

/-- The outcome of a run that reached DONE (R156). -/
def runOutcome (c : FillContext) : CalOutcome :=
  if c.flags.overrange then .overrange else if c.delivered < 1000000 then .tooSmall else .complete

/-- The CU state after a run that reached DONE (R156). -/
def afterRun : CalOutcome → CalState
  | .complete => .awaitActual
  | .overrange => .armed
  | .tooSmall => .armed
  | .abortedContact => .armed
  | .abortedStuck => .armed
  | .abandoned => .idle
  | .factorWritten => .armed

/-- A run is complete (R156): DONE is passed through within the expiry. -/
def State.completeRun (h : HeadId) (s : State) : State :=
  match (s.head h).fill with
  | none => s
  | some c => s.endRun h (runOutcome c) (afterRun (runOutcome c))

/-! ### Settling and snift -/

/-- The snift dwell of a head ends (R36): in production the report with its volume verdict and DONE; in
CALIBRATION the run completes (R156). -/
def State.finishSnift (h : HeadId) (s : State) : State :=
  match (s.head h).fill with
  | none => s
  | some c =>
    if s.mode = .calibration then s.completeRun h
    else (s.reportFill h (volumeVerdict (s.recipe c.slot) c)).leaveFlight h .done none

/-- The settle time of a head ends (R34): V is D; in production the learning step; then SNIFT, which a dwell of
0 ms passes through within the expiry (R36). In CALIBRATION no learning step is taken (R63, R155). -/
def State.finishSettle (h : HeadId) (s : State) : State :=
  match (s.head h).fill with
  | none => s
  | some c =>
    let r := s.recipe c.slot
    let t := if s.mode = .calibration then s
      else (s.learn h c).updHead h fun x => { x with fill := some (learnedContext r c) }
    if r.sniftDwell = 0 then t.finishSnift h else t.enter h .snift (some ⟨.sniftDwell, r.sniftDwell⟩)

end Sys2Proof.Machine
end

