-- ==== Sys2Proof/Machine/Calibration.lean ====
section
/-! DEFINITION. The Calibration Unit (chapter 9): the requests START CALIBRATION, ENTER ACTUAL VOLUME and END
CALIBRATION, the start of a run and its abandoning. -/

namespace Sys2Proof.Machine

/-- The calibration record once CU goes to IDLE: head and target none, the last result kept (R152, R159). -/
def Calibration.ended (c : Calibration) : Calibration := { c with head := none, target := none, state := .idle }

/-- A run in DOSING is cut off: outcome ABANDONED from D as the last scan left it, the head to IDLE (R159,
R160). -/
def State.abandonRun (s : State) : State :=
  match s.cal.head with
  | some h => if s.cal.state = .dosing then s.endRun h .abandoned .idle else s
  | none => s

/-- The calibration ends, if there is one: a run in DOSING is abandoned and CU goes to IDLE (R159, R160). -/
def State.endCalibration (s : State) : State :=
  let t := s.abandonRun
  { t with cal := t.cal.ended }

/-- START CALIBRATION at CU (R153). -/
def startCalibration (head target : Nat) (s : State) : State × Answer :=
  if s.mode = .standby then
    match inRange? 64 head with
    | none => refuse .badField s
    | some h =>
      if between 10000 3000000 target = false then refuse .badField s
      else if (s.head h).factor = 0 then refuse .headUncalibrated s
      else if (s.head h).active.isNone then refuse .recipeMissing s
      else
        accept []
          { s with
            cal := { s.cal with head := some h, target := some target, state := .armed }
            mode := .calibration }
  else refuse .wrongMode s

/-- The new meter factor, the quotient rounded to nearest, a half rounding up (R158). -/
def newFactor (old actual measured : Nat) : Nat := (old * actual + measured / 2) / measured

/-- The ±10 % window of an actual volume, both bounds plausible (R158). -/
def plausible (actual measured : Nat) : Bool :=
  decide (9 * measured ≤ 10 * actual) && decide (10 * actual ≤ 11 * measured)

/-- ENTER ACTUAL VOLUME at CU (R158). In AWAIT_ACTUAL a head and a last result are held; without them the
request finds no run to enter a volume for (Log 15). -/
def enterActualVolume (volume : Nat) (s : State) : State × Answer :=
  if s.mode = .calibration ∧ s.cal.state = .awaitActual then
    if 4294967 < volume then refuse .badField s
    else
      match s.cal.head, s.cal.last with
      | some h, some run =>
        let old := (s.head h).factor
        let new := newFactor old (volume * 1000) run.measured
        if plausible (volume * 1000) run.measured && between 200 65535 new then
          accept (leBytes 2 old ++ leBytes 2 new)
            { s.updHead h (fun x => { x with factor := new }) with
              cal := { s.cal with
                state := .armed
                last := some { run with
                  outcome := .factorWritten
                  actual := some (volume * 1000)
                  oldFactor := some old
                  newFactor := some new } } }
        else refuse .calImplausible s
      | _, _ => refuse .calState s
  else refuse .calState s

/-- END CALIBRATION at CU (R159). -/
def endCalibrationRequest (s : State) : State × Answer :=
  if s.mode = .calibration then accept [] (s.endCalibration.setMode s.afterService) else refuse .calState s

/-- A contact arrival at the armed head starts a run (R154). A head without an active slot cannot be armed (R153,
R94), so nothing starts there (Log 15). -/
def State.startRun (h : HeadId) (s : State) : State :=
  if (s.head h).active.isNone && (s.head h).pendingSlot.isNone then s
  else { s.enterPressurize h with cal := { s.cal with state := .dosing } }

/-- The row START_CALIBRATION (R153). -/
def execStartCalibration (head target : Nat) (s : State) : Host.Outcome State Fault Refusal :=
  .next (transact 0x18 (startCalibration head target) s)

/-- The row ENTER_ACTUAL_VOLUME (R158). -/
def execEnterActualVolume (volume : Nat) (s : State) : Host.Outcome State Fault Refusal :=
  .next (transact 0x19 (enterActualVolume volume) s)

/-- The row END_CALIBRATION (R159). -/
def execEndCalibration (s : State) : Host.Outcome State Fault Refusal :=
  .next (transact 0x1A endCalibrationRequest s)

end Sys2Proof.Machine
end

