-- ==== Sys2Proof/Machine/Cleaning.lean ====
section
/-! DEFINITION. The Cleaning Sequencer (chapter 10): START CLEANING, the phase expiries, the early end and READ
CLEANING VOLUMES. -/

namespace Sys2Proof.Machine

/-- The heads of the driven set, ascending (R162). -/
def State.drivenHeads (s : State) : List HeadId := allHeads.filter fun h => s.cleaning.driven[h]

/-- Every head of the driven set takes a cleaning state (R163 to R165). -/
def State.driveTo (cycle : CycleState) (s : State) : State :=
  s.drivenHeads.foldl (fun t h => t.enter h cycle none) s

/-- Every head of the driven set goes to IDLE (R165, R167). -/
def State.releaseDriven (s : State) : State := s.drivenHeads.foldl (fun t h => t.goIdle h) s

/-- The phase and timer of a run that is over, with its result (R165, R167). -/
def Cleaning.over (c : Cleaning) (result : CleaningResult) : Cleaning :=
  { c with phase := .idle, timer := none, result := result }

/-- A run in progress ends early as INCOMPLETE; the mode that follows is the caller's (R167). -/
def State.endCleaningEarly (s : State) : State :=
  { s.releaseDriven with cleaning := s.cleaning.over .incomplete }

/-- The run is complete (R165). -/
def State.completeCleaning (s : State) : State :=
  { s.releaseDriven with cleaning := s.cleaning.over .complete, mode := s.afterService }

/-- The next cycle begins: phase OPEN, the driven heads to CLEAN_OPEN (R165). -/
def State.nextCycle (plan : CleaningPlan) (s : State) : State :=
  State.driveTo .cleanOpen
    { s with
      cleaning := { s.cleaning with
        cycle := s.cleaning.cycle + 1
        phase := .openPhase
        timer := some plan.openTime } }

/-- The present cycle ends at a pause expiry (R165). -/
def State.endCycle (plan : CleaningPlan) (s : State) : State :=
  if s.cleaning.cycle < plan.cycles then s.nextCycle plan else s.completeCleaning

/-- The no-flow marks as judged at the first open expiry: the driven heads whose counter is 0 (R164). -/
def Cleaning.judgeMarks (c : Cleaning) : Vector Bool 64 :=
  Vector.ofFn fun h : HeadId => c.noFlow[h] || (c.driven[h] && decide (c.counters[h] = 0))

/-- An open phase is counted, and at the first the no-flow marks are judged (R164, steps 1 and 2). -/
def Cleaning.countOpen (c : Cleaning) : Cleaning :=
  { c with
    cyclesDone := c.cyclesDone + 1
    noFlow := if c.cyclesDone + 1 = 1 then c.judgeMarks else c.noFlow }

/-- The open phase of the present cycle ends (R164). A pause time of 0 expires within the open expiry. -/
def State.endOpenPhase (plan : CleaningPlan) (s : State) : State :=
  let t := { s with cleaning := s.cleaning.countOpen }
  if plan.pauseTime = 0 then t.endCycle plan
  else
    State.driveTo .cleanPause
      { t with cleaning := { t.cleaning with phase := .pausePhase, timer := some plan.pauseTime } }

/-- START CLEANING at CS (R163). -/
def startCleaning (openTime pauseTime cycles : Nat) (s : State) : State × Answer :=
  if s.mode = .standby then
    if planInRange openTime pauseTime cycles = false then refuse .badField s
    else if allHeads.any (fun h => decide ((s.head h).enable = .enabled)) = false then refuse .nothingEnabled s
    else
      accept []
        (State.driveTo .cleanOpen
          { s with
            cleaning :=
              { plan := some ⟨openTime, pauseTime, cycles⟩
                phase := .openPhase
                cycle := 1
                cyclesDone := 0
                driven := Vector.ofFn fun h : HeadId => decide ((s.head h).enable = .enabled)
                timer := some openTime
                counters := Vector.replicate 64 0
                noFlow := Vector.replicate 64 false
                result := .running }
            mode := .cleaning })
  else refuse .wrongMode s

/-- READ CLEANING VOLUMES at CS (R168). -/
def readCleaningVolumes (s : State) : State × Answer := accept s.cleaning.record s

/-- The row START_CLEANING (R163). -/
def execStartCleaning (openTime pauseTime cycles : Nat) (s : State) : Host.Outcome State Fault Refusal :=
  .next (transact 0x16 (startCleaning openTime pauseTime cycles) s)

/-- The row READ_CLEANING_VOLUMES (R168). -/
def execReadCleaningVolumes (s : State) : Host.Outcome State Fault Refusal :=
  .next (transact 0x17 readCleaningVolumes s)

/-- The row OPEN_PHASE_EXPIRY (R164); it comes only while an open phase runs (Log 9). -/
def execOpenPhaseExpiry (s : State) : Host.Outcome State Fault Refusal :=
  .next (event (fun t =>
    match t.cleaning.plan with
    | some plan => if t.cleaning.phase = .openPhase then t.endOpenPhase plan else t
    | none => t) s)

/-- The row PAUSE_PHASE_EXPIRY (R165); it comes only while a pause runs (Log 9). -/
def execPausePhaseExpiry (s : State) : Host.Outcome State Fault Refusal :=
  .next (event (fun t =>
    match t.cleaning.plan with
    | some plan => if t.cleaning.phase = .pausePhase then t.endCycle plan else t
    | none => t) s)

end Sys2Proof.Machine
end

