-- ==== Sys2Proof/Machine/Modes.lean ====
section
/-! DEFINITION. The Mode Controller (chapter 8): the mode requests, the halt, the alarms, the valve power sense,
the product-ready line and READ STATUS. -/

namespace Sys2Proof.Machine

/-! ### The halt -/

/-- The report a head creates at a halt of the heads, by its state (R44); a calibration creates none. -/
def State.reportHalted (h : HeadId) (s : State) : State :=
  match (s.head h).cycle with
  | .pressurize => halted
  | .fillSoft => halted
  | .fillFast => halted
  | .fillTopUp => halted
  | .closing => halted
  | .snift => halted
  | .skip => s.reportSkipped h
  | .idle => s
  | .waitBottle => s
  | .done => s
  | .aborted => s
  | .cleanOpen => s
  | .cleanPause => s
where
  /-- The HALTED report of a production fill. -/
  halted : State := if s.mode = .calibration then s else s.reportFill h .halted

/-- A halt of the heads (R44): the reports in ascending head order (R124), then every head to IDLE. -/
def State.haltHeads (s : State) : State := (allHeads.foldl (fun t h => t.reportHalted h) s).clearHeads

/-- A cleaning plan in progress is stopped as INCOMPLETE (R139 step 4, R167); the heads are the halt's. -/
def Cleaning.stopped (c : Cleaning) : Cleaning := if c.phase = .idle then c else c.over .incomplete

/-- The halt of the D64: steps 1 to 5 of R139. -/
def State.haltAll (s : State) : State :=
  let t := s.endCalibration.haltHeads
  { t with cleaning := t.cleaning.stopped, mode := .halted }

/-- HALT (R139). -/
def haltRequest (s : State) : State × Answer := accept [] s.haltAll

/-- CLEAR HALT (R141, R15). -/
def clearHalt (s : State) : State × Answer :=
  if s.mode = .halted then
    if s.valvePower then
      accept []
        { s with
          mode := .standby
          tracker :=
            if s.tracker.status = .faulted then ⟨s.tracker.geometry, 0, 0, 0, .unreferenced⟩ else s.tracker }
    else refuse .noValvePower s
  else refuse .wrongMode s

/-! ### Production -/

/-- The refusal of a START PRODUCTION in STANDBY or DRAINING, in the order of R136; none if it is accepted. -/
def startRefusal (s : State) : Option Status :=
  if s.tracker.geometry.headCount = 0 then some .geometryUnset
  else if s.tracker.status ≠ .referenced then some .notReferenced
  else if allHeads.any (fun h => decide ((s.head h).enable = .enabled)) = false then some .nothingEnabled
  else if allHeads.any (fun h => decide ((s.head h).enable = .enabled) && (s.head h).active.isNone) then
    some .recipeMissing
  else none

/-- START PRODUCTION (R136). -/
def startProduction (s : State) : State × Answer :=
  if s.mode = .standby ∨ s.mode = .draining then
    match startRefusal s with
    | some st => refuse st s
    | none => accept [] { s with mode := .production, tracker := { s.tracker with lead := 0 } }
  else refuse .wrongMode s

/-- STOP (R137). -/
def stopRequest (s : State) : State × Answer :=
  match s.mode with
  | .production => accept [] (s.setMode .draining).judgeDrain
  | .cleaning => accept [] (s.endCleaningEarly.setMode s.afterService)
  | .standby => accept [] s
  | .draining => refuse .wrongMode s
  | .halted => refuse .wrongMode s
  | .calibration => refuse .wrongMode s

/-! ### Alarms -/

/-- Whether the cause of an alarm is gone (R146). -/
def causeGone (s : State) : Alarm → Bool
  | .indexSlip => true
  | .encoderFault => decide (s.tracker.status ≠ .faulted)
  | .valvePowerLost => s.valvePower
  | .reportOverflow => true
  | .headLockout => !allHeads.any fun h => decide ((s.head h).enable = .lockedOut)

/-- The bit of an alarm in the mask of ACKNOWLEDGE ALARMS (R178). -/
def Alarm.bit : Alarm → Nat
  | .indexSlip => 0
  | .encoderFault => 1
  | .valvePowerLost => 2
  | .reportOverflow => 3
  | .headLockout => 4

/-- Whether an alarm stays latched through an acknowledgement (R147). -/
def staysLatched (s : State) (mask : Byte) (x : Alarm) : Bool :=
  s.alarms.has x && !(mask.getLsbD x.bit && causeGone s x)

/-- The alarms left by an acknowledgement (R147). -/
def acknowledged (s : State) (mask : Byte) : Alarms :=
  ⟨staysLatched s mask .indexSlip, staysLatched s mask .encoderFault, staysLatched s mask .valvePowerLost,
    staysLatched s mask .reportOverflow, staysLatched s mask .headLockout⟩

/-- ACKNOWLEDGE ALARMS (R147): a mask with bit 5, 6 or 7 set is refused (R178). -/
def acknowledgeAlarms (mask : Byte) (s : State) : State × Answer :=
  if 32 ≤ mask.toNat then refuse .badField s
  else accept (leBytes 1 (acknowledged s mask).code) { s with alarms := acknowledged s mask }

/-! ### Status, restart and the unknown request -/

/-- READ STATUS (R180). -/
def readStatus (s : State) : State × Answer := accept s.statusRecord s

/-- RESTART (R149): answered OK from the state before the reset; the reset waits for the reply to be sent. -/
def restartRequest (s : State) : State × Answer := accept [] { s with link := { s.link with restartPending := true } }

/-- A request code that LI does not recognise (R175). -/
def unknownRequest (s : State) : State × Answer := refuse .unknownRequest s

/-! ### The live inputs -/

/-- A valve power loss at VD and MC (R111, R140). -/
def State.losePower (s : State) : State :=
  State.haltAll (State.raise { s.dropTerminals with drive := .unpowered, valvePower := false } .valvePowerLost)

/-- A valve power return at VD and MC (R113, R140). -/
def State.regainPower (s : State) : State :=
  State.deriveTerminalsWhere (fun _ => true) { s with drive := .powered, valvePower := true }

/-! ### The rows -/

/-- The row READ_STATUS (R180). -/
def execReadStatus (s : State) : Host.Outcome State Fault Refusal := .next (transact 0x01 readStatus s)

/-- The row START_PRODUCTION (R136). -/
def execStartProduction (s : State) : Host.Outcome State Fault Refusal := .next (transact 0x12 startProduction s)

/-- The row STOP (R137). -/
def execStop (s : State) : Host.Outcome State Fault Refusal := .next (transact 0x13 stopRequest s)

/-- The row HALT (R139): addressed, a request; broadcast, executed by every node without a reply (R174). -/
def execHalt (broadcast : Bool) (s : State) : Host.Outcome State Fault Refusal :=
  .next (if broadcast then
      event (fun t => if t.link.rx = .transmitting then t else t.haltAll.toHunt) s
    else transact 0x14 haltRequest s)

/-- The row CLEAR_HALT (R141). -/
def execClearHalt (s : State) : Host.Outcome State Fault Refusal := .next (transact 0x15 clearHalt s)

/-- The row ACKNOWLEDGE_ALARMS (R147). -/
def execAcknowledgeAlarms (mask : Byte) (s : State) : Host.Outcome State Fault Refusal :=
  .next (transact 0x1E (acknowledgeAlarms mask) s)

/-- The row RESTART (R149). -/
def execRestart (s : State) : Host.Outcome State Fault Refusal := .next (transact 0x1F restartRequest s)

/-- The row UNKNOWN_REQUEST (R175). -/
def execUnknownRequest (code : Nat) (s : State) : Host.Outcome State Fault Refusal :=
  .next (transact code unknownRequest s)

/-- The row VALVE_POWER_LOSS (R111, R140): a change of the sense from present to absent; with power already
absent there is no change (R112, Log 9). While the reset line is held only the level changes (Log 7). -/
def execValvePowerLoss (s : State) : Host.Outcome State Fault Refusal :=
  .next (if s.pins.valvePower then event State.losePower (s.putSense false) else s)

/-- The row VALVE_POWER_RETURN (R113, R140): a change of the sense from absent to present (Log 7, Log 9). -/
def execValvePowerReturn (s : State) : Host.Outcome State Fault Refusal :=
  .next (if s.pins.valvePower then s else event State.regainPower (s.putSense true))

/-- The row PRODUCT_READY_CHANGE (R144): MC records the new level of the line (Log 7, Log 8). -/
def execProductReadyChange (high : Bool) (s : State) : Host.Outcome State Fault Refusal :=
  .next (event (fun t => { t with productReady := high }) { s with pins := { s.pins with productReady := high } })

end Sys2Proof.Machine
end

