-- ==== Sys2Proof/Machine/Heads.lean ====
section
/-! DEFINITION. The Head Sequencer (chapter 2): what a head does with its angle arrivals, its contact changes and
its timer expiries, the millisecond clock, and the requests SET HEAD, READ HEAD, ENABLE and DISABLE HEADS. -/

namespace Sys2Proof.Machine

/-! ### Angle arrivals -/

/-- Whether an infeed arrival sends the head to SKIP (R24). -/
def skips (s : State) (x : Head) : Bool :=
  decide (x.enable ≠ .enabled) || decide (s.mode = .draining) || !s.productReady ||
    (x.active.isNone && x.pendingSlot.isNone)

/-- The slot the contact window is read from: the pending slot if present, otherwise the active one (R25). -/
def Head.windowSlot (x : Head) : Option SlotId :=
  match x.pendingSlot with
  | some p => some p
  | none => x.active

/-- An infeed arrival at a head in IDLE begins a pass (R24 to R26). The stored contact window is at least 10 ms
(R85), so it never expires within the arrival (Log 20). -/
def State.beginPass (h : HeadId) (s : State) : State :=
  let x := s.head h
  if skips s x then (s.updHead h fun y => { y with contactSeen := s.contact h }).enter h .skip none
  else if s.contact h then s.enterPressurize h
  else
    match x.windowSlot with
    | some k => s.enter h .waitBottle (some ⟨.contactWindow, (s.recipe k).contactWindow⟩)
    | none => s

/-- An infeed arrival at a head (R24): a head in DONE first goes to IDLE (R38). -/
def State.infeed (h : HeadId) (s : State) : State :=
  match (s.head h).cycle with
  | .idle => s.beginPass h
  | .done => (s.goIdle h).beginPass h
  | .waitBottle => s
  | .skip => s
  | .pressurize => s
  | .fillSoft => s
  | .fillFast => s
  | .fillTopUp => s
  | .closing => s
  | .snift => s
  | .aborted => s
  | .cleanOpen => s
  | .cleanPause => s

/-- A latest-close arrival at a head (R30): it closes a fill stage late and leaves any other state as it is. -/
def State.latestClose (h : HeadId) (s : State) : State :=
  if (s.head h).cycle.isFillStage then s.enterClosing h true else s

/-- A discharge arrival at a head (R25, R26, R37, R38, R39). -/
def State.discharge (h : HeadId) (s : State) : State :=
  match (s.head h).cycle with
  | .waitBottle => s.leaveToIdle h
  | .skip => (s.reportSkipped h).goIdle h
  | .pressurize => s.endFill h .shortSnift
  | .fillSoft => s.endFill h .shortSnift
  | .fillFast => s.endFill h .shortSnift
  | .fillTopUp => s.endFill h .shortSnift
  | .closing => s.endFill h .shortSnift
  | .snift => s.endFill h .shortSnift
  | .done => s.goIdle h
  | .aborted => s.goIdle h
  | .idle => s
  | .cleanOpen => s
  | .cleanPause => s

/-! ### Contact changes -/

/-- A contact arrival as HS takes it (R25, R26, R154): it starts the run of the armed head, fills or skips a
waiting head, marks a skipped one, and leaves any other state as it is. -/
def State.contactCame (h : HeadId) (s : State) : State :=
  if s.mode = .calibration then
    if s.cal.state = .armed ∧ s.cal.head = some h then s.startRun h else s
  else
    match (s.head h).cycle with
    | .waitBottle =>
      if (s.head h).active.isNone && (s.head h).pendingSlot.isNone then
        (s.updHead h fun x => { x with contactSeen := true }).leaveFlight h .skip none
      else s.enterPressurize h
    | .skip => s.updHead h fun x => { x with contactSeen := true }
    | .idle => s
    | .pressurize => s
    | .fillSoft => s
    | .fillFast => s
    | .fillTopUp => s
    | .closing => s
    | .snift => s
    | .done => s
    | .aborted => s
    | .cleanOpen => s
    | .cleanPause => s

/-- A contact loss in PRESSURIZE, a fill stage or CLOSING: BURST (R28, R31, R35), or the early end of a
calibration run (R157). -/
def State.burst (h : HeadId) (s : State) : State :=
  if s.mode = .calibration then s.endRun h .abortedContact .armed else s.abortFill h .burst

/-- A contact loss as HS takes it (R28, R31, R35, R36, R157). -/
def State.contactWent (h : HeadId) (s : State) : State :=
  match (s.head h).cycle with
  | .pressurize => s.burst h
  | .fillSoft => s.burst h
  | .fillFast => s.burst h
  | .fillTopUp => s.burst h
  | .closing => s.burst h
  | .snift => if s.mode = .calibration then s.endRun h .abortedContact .armed else s.endFill h .shortSnift
  | .idle => s
  | .waitBottle => s
  | .skip => s
  | .done => s
  | .aborted => s
  | .cleanOpen => s
  | .cleanPause => s

/-! ### Timer expiries -/

/-- Whether a head is in a state with the timer of a kind running: a cancelled timer has no expiry (R22,
Log 9). -/
def Head.times (x : Head) (cycle : CycleState) (kind : TimerKind) : Bool :=
  decide (x.cycle = cycle) && decide (x.timer.map Timer.kind = some kind)

/-- A timer expiry at a head: it acts only if that timer runs. -/
def onExpiry (cycle : CycleState) (kind : TimerKind) (h : HeadId) (act : State → State) (s : State) : State :=
  event (fun t => if (t.head h).times cycle kind then act t else t) s

/-- The vent of an ABORTED head ends: the timer is over and the SNIFT output closes (R39). -/
def State.endVent (h : HeadId) (s : State) : State :=
  (s.updHead h fun x => { x with timer := none }).setVent h false

/-! ### Requests -/

/-- SET HEAD at HS (R18), with VD's derivation of the head's terminals (R109). -/
def setHead (head profile factor : Nat) (s : State) : State × Answer :=
  if s.mode.configurable then
    match inRange? 64 head, inRange? 8 profile with
    | some h, some p =>
      if factorAllowed factor && !(decide (factor = 0) && decide ((s.head h).enable ≠ .disabled)) then
        accept [] ((s.updHead h fun x => { x with profile := p, factor := factor }).deriveTerminals h)
      else refuse .badField s
    | _, _ => refuse .badField s
  else refuse .wrongMode s

/-- READ HEAD at HS (R21, R178). -/
def readHead (head : Nat) (s : State) : State × Answer :=
  match inRange? 64 head with
  | some h => accept (s.headRecord h) s
  | none => refuse .badField s

/-- A head with an enable state, its fault count kept or not (R19, R20). -/
def State.setEnable (mask : HeadMask) (f : Head → Head) (s : State) : State :=
  { s with heads := Vector.ofFn fun h : HeadId => if inMask mask h then f (s.head h) else s.head h }

/-- ENABLE HEADS at HS (R19), its refusals in order. -/
def enableHeads (mask : HeadMask) (s : State) : State × Answer :=
  if namesBeyond mask s then refuse .badField s
  else if s.anyIn mask (fun x => decide (x.factor = 0)) then refuse .headUncalibrated s
  else if s.mode.producing && s.anyIn mask (fun x => x.active.isNone && x.pendingSlot.isNone) then
    refuse .recipeMissing s
  else accept [] (s.setEnable mask fun x => { x with enable := .enabled, faults := 0 })

/-- DISABLE HEADS at HS (R20). -/
def disableHeads (mask : HeadMask) (s : State) : State × Answer :=
  accept [] (s.setEnable mask fun x => { x with enable := .disabled })

/-! ### The rows -/

/-- The row SET_HEAD (R18). -/
def execSetHead (head profile factor : Nat) (s : State) : Host.Outcome State Fault Refusal :=
  .next (transact 0x06 (setHead head profile factor) s)

/-- The row READ_HEAD (R21). -/
def execReadHead (head : Nat) (s : State) : Host.Outcome State Fault Refusal :=
  .next (transact 0x07 (readHead head) s)

/-- The row ENABLE_HEADS (R19). -/
def execEnableHeads (mask : HeadMask) (s : State) : Host.Outcome State Fault Refusal :=
  .next (transact 0x08 (enableHeads mask) s)

/-- The row DISABLE_HEADS (R20). -/
def execDisableHeads (mask : HeadMask) (s : State) : Host.Outcome State Fault Refusal :=
  .next (transact 0x09 (disableHeads mask) s)

/-- The row CONTACT_ARRIVAL (R22, R25, R26, R154): a change of the input from absent to present (Log 7,
Log 9). -/
def execContactArrival (h : HeadId) (s : State) : Host.Outcome State Fault Refusal :=
  .next (if s.contact h then s else event (State.contactCame h) (s.putContact h true))

/-- The row CONTACT_LOSS (R22, R28, R31, R35, R36, R157): a change of the input from present to absent (Log 7,
Log 9). -/
def execContactLoss (h : HeadId) (s : State) : Host.Outcome State Fault Refusal :=
  .next (if s.contact h then event (State.contactWent h) (s.putContact h false) else s)

/-- The row CONTACT_WINDOW_EXPIRY (R25): the waiting head goes to IDLE without a report. -/
def execContactWindowExpiry (h : HeadId) (s : State) : Host.Outcome State Fault Refusal :=
  .next (onExpiry .waitBottle .contactWindow h (State.leaveToIdle h) s)

/-- The row PRESSURIZE_DWELL_EXPIRY (R28): the head goes to FILL_SOFT. -/
def execPressurizeDwellExpiry (h : HeadId) (s : State) : Host.Outcome State Fault Refusal :=
  .next (onExpiry .pressurize .pressurizeDwell h (State.enter h .fillSoft none) s)

/-- The row SETTLE_EXPIRY (R34). -/
def execSettleExpiry (h : HeadId) (s : State) : Host.Outcome State Fault Refusal :=
  .next (onExpiry .closing .settle h (State.finishSettle h) s)

/-- The row SNIFT_DWELL_EXPIRY (R36). -/
def execSniftDwellExpiry (h : HeadId) (s : State) : Host.Outcome State Fault Refusal :=
  .next (onExpiry .snift .sniftDwell h (State.finishSnift h) s)

/-- The row VENT_DWELL_EXPIRY (R39). -/
def execVentDwellExpiry (h : HeadId) (s : State) : Host.Outcome State Fault Refusal :=
  .next (onExpiry .aborted .vent h (State.endVent h) s)

/-- The row MILLISECOND_TICK (R23). -/
def execMillisecondTick (s : State) : Host.Outcome State Fault Refusal :=
  .next (event (fun t => { t with clock := t.clock + 1 }) s)

end Sys2Proof.Machine
end

