-- ==== Sys2Proof/Machine/Angle.lean ====
section
/-! DEFINITION. The Angle Tracker (chapter 1): angles and arrivals, the encoder events, the index mark, and the
requests SET GEOMETRY and READ GEOMETRY. -/

namespace Sys2Proof.Machine

/-! ### Angles -/

/-- The carousel angle of an encoder count: floor(c × 65,536 / CPR) (R4). -/
def carouselAngle (g : Geometry) (c : Nat) : Nat := c * 65536 / g.cpr

/-- The offset of a head: floor(h × 65,536 / N) (R5). -/
def headOffset (g : Geometry) (h : HeadId) : Nat := h.val * 65536 / g.headCount

/-- An angle as a wrapping quantity (R4, R5). -/
def wrapAngle (a : Nat) : BitVec 16 := BitVec.ofNat 16 a

/-- The head-relative angle of a head at a carousel angle (R5). -/
def headAngle (g : Geometry) (a : Nat) (h : HeadId) : BitVec 16 :=
  wrapAngle a - wrapAngle g.zeroOffset - wrapAngle (headOffset g h)

/-- The span of the forward step from count `c0` (R4). -/
def stepSpan (g : Geometry) (c0 : Nat) : Nat :=
  (wrapAngle (carouselAngle g ((c0 + 1) % g.cpr)) - wrapAngle (carouselAngle g c0)).toNat

/-- The three boundaries of a head (R8). -/
inductive Boundary where
  | infeed
  | latestClose
  | discharge
  deriving DecidableEq, Repr

/-- The head-relative angle of a boundary (R1). -/
def boundaryAngle (g : Geometry) : Boundary → Nat
  | .infeed => g.infeed
  | .latestClose => g.latestClose
  | .discharge => g.discharge

/-- The distance of a boundary of a head ahead of a count (R8). -/
def arrivalDistance (g : Geometry) (c0 : Nat) (b : Boundary) (h : HeadId) : Nat :=
  (wrapAngle (boundaryAngle g b) - headAngle g (carouselAngle g c0) h).toNat

/-- An angle arrival (R8), with its distance from the start of the crossing. -/
structure Arrival where
  head : HeadId
  boundary : Boundary
  distance : Nat
  deriving DecidableEq, Repr

/-- The arrivals that the forward crossing from count `c0` raises, not yet in order (R8). -/
def arrivalsRaised (g : Geometry) (c0 : Nat) : List Arrival :=
  (allHeads.filter fun h => h.val < g.headCount).flatMap fun h =>
    [Boundary.infeed, .latestClose, .discharge].filterMap fun b =>
      let d := arrivalDistance g c0 b h
      if between 1 (stepSpan g c0) d then some ⟨h, b, d⟩ else none

/-- The rank of a boundary among arrivals of equal distance (Log 11). -/
def tieRank (infeedFirst : Bool) : Boundary → Nat
  | .latestClose => 1
  | .infeed => if infeedFirst then 0 else 2
  | .discharge => if infeedFirst then 2 else 0

/-- The order in which the arrivals of one crossing are taken: ascending distance (R8); at equal distance, as the
free value of Log 11 has it. -/
def takenBefore (infeedFirst : Bool) (a b : Arrival) : Bool :=
  decide (a.distance < b.distance) ||
    (decide (a.distance = b.distance) && decide (tieRank infeedFirst a.boundary ≤ tieRank infeedFirst b.boundary))

/-- Whether an INFEED goes before a DISCHARGE of equal distance. Only in DRAINING does the order tell, and there
it is free; in PRODUCTION every order gives the same state (R8, Log 11). -/
def infeedFirst (s : State) : Bool := decide (s.mode = .draining) && Config.infeedFirst s.choices

/-- An arrival as its head takes it. Arrivals are raised in PRODUCTION and DRAINING alone (R9), so an arrival
that comes after one of the same crossing has ended DRAINING is not taken (Log 12). -/
def State.takeArrival (s : State) (a : Arrival) : State :=
  if s.mode.producing then
    match a.boundary with
    | .infeed => s.infeed a.head
    | .latestClose => s.latestClose a.head
    | .discharge => s.discharge a.head
  else s

/-- The arrivals of the crossing from count `c0`, taken in order (R8). In DRAINING the free order moves on. -/
def State.cross (c0 : Nat) (s : State) : State :=
  let arrivals := (arrivalsRaised s.tracker.geometry c0).insertionSort fun a b => takenBefore (infeedFirst s) a b = true
  arrivals.foldl State.takeArrival { s with choices := if s.mode = .draining then s.choices + 1 else s.choices }

/-! ### Encoder events -/

/-- A forward step in UNREFERENCED or REFERENCED (R6). -/
def State.stepForward (s : State) : State :=
  let t := s.tracker
  let c1 := (t.count + 1) % t.geometry.cpr
  if 0 < t.lead then { s with tracker := { t with count := c1, lead := t.lead - 1 } }
  else
    let u := { s with tracker := { t with count := c1 } }
    if s.mode.producing then u.cross t.count else u

/-- The tracker becomes FAULTED (R14), and MC latches ENCODER_FAULT and acts on the mode (R143). -/
def State.faultTracker (s : State) : State :=
  let t := State.raise { s with tracker := { s.tracker with status := .faulted } } .encoderFault
  match t.mode with
  | .standby => t.setMode .halted
  | .production => t.haltHeads.setMode .halted
  | .draining => t.haltHeads.setMode .halted
  | .halted => t
  | .cleaning => t
  | .calibration => t

/-- A backward step in UNREFERENCED or REFERENCED (R7). -/
def State.stepBackward (s : State) : State :=
  let t := s.tracker
  let u := { s with
    tracker := { t with count := (t.count + t.geometry.cpr - 1) % t.geometry.cpr, lead := sat16 (t.lead + 1) } }
  if s.mode.producing ∧ t.geometry.reverseTolerance < u.tracker.lead then u.faultTracker else u

/-- Whether the count after an index step is exact or within a tolerance band (R11). -/
def indexInBand (t : Tracker) : Bool :=
  decide (t.count ≤ t.geometry.indexTolerance) || decide (t.geometry.cpr - t.geometry.indexTolerance ≤ t.count)

/-- The check of the count at the index mark (R11, R12). -/
def State.checkIndex (s : State) : State :=
  let t := s.tracker
  if indexInBand t then { s with tracker := { t with count := 0, slips := 0 } }
  else
    let u := State.raise { s with tracker := { t with count := 0, slips := t.slips + 1 } } .indexSlip
    if 2 ≤ t.slips + 1 then u.faultTracker else u

/-- The row ENCODER_FORWARD_STEP (R6): ignored in FAULTED. -/
def execEncoderForwardStep (s : State) : Host.Outcome State Fault Refusal :=
  .next (event (fun t => if t.tracker.status = .faulted then t else t.stepForward) s)

/-- The row ENCODER_BACKWARD_STEP (R7): ignored in FAULTED. -/
def execEncoderBackwardStep (s : State) : Host.Outcome State Fault Refusal :=
  .next (event (fun t => if t.tracker.status = .faulted then t else t.stepBackward) s)

/-- The row INDEX_MARK_STEP (R10 to R12): a forward step first, then the index mark; ignored in FAULTED. -/
def execIndexMarkStep (s : State) : Host.Outcome State Fault Refusal :=
  .next (event (fun t =>
    match t.tracker.status with
    | .unreferenced =>
      let u := t.stepForward
      { u with tracker := ⟨u.tracker.geometry, 0, 0, 0, .referenced⟩ }
    | .referenced => t.stepForward.checkIndex
    | .faulted => t) s)

/-- The row QUADRATURE_ERROR (R13): ignored in FAULTED. -/
def execQuadratureError (s : State) : Host.Outcome State Fault Refusal :=
  .next (event (fun t => if t.tracker.status = .faulted then t else t.faultTracker) s)

/-! ### Requests -/

/-- The tracker after an accepted SET GEOMETRY (R2). -/
def trackerWith (g : Geometry) (t : Tracker) : Tracker :=
  ⟨g, 0, 0, 0, if t.status = .faulted then .faulted else .unreferenced⟩

/-- SET GEOMETRY at AT (R2). -/
def setGeometry (g : Geometry) (s : State) : State × Answer :=
  if s.mode.configurable then
    if geometryInRange g &&
        !allHeads.any (fun h => decide ((s.head h).enable ≠ .disabled) && decide (g.headCount ≤ h.val)) then
      accept [] { s with tracker := trackerWith g s.tracker }
    else refuse .badField s
  else refuse .wrongMode s

/-- READ GEOMETRY at AT (R3, R178). -/
def readGeometry (s : State) : State × Answer :=
  let t := s.tracker
  accept (t.geometry.encode ++ leBytes 1 t.status.code ++ leBytes 2 t.count ++
    leBytes 2 (carouselAngle t.geometry t.count) ++ leBytes 2 t.lead ++ leBytes 1 t.slips) s

/-- The row SET_GEOMETRY (R2). -/
def execSetGeometry (g : Geometry) (s : State) : Host.Outcome State Fault Refusal :=
  .next (transact 0x02 (setGeometry g) s)

/-- The row READ_GEOMETRY (R3). -/
def execReadGeometry (s : State) : Host.Outcome State Fault Refusal := .next (transact 0x03 readGeometry s)

end Sys2Proof.Machine
end

