-- ==== Sys2Proof/Machine/Resets.lean ====
section
/-! DEFINITION. The resets (R45, R69, R83, R102, R116, R134, R149, R150, R161, R169, R171): power-on, the reset
line, and the reset of a RESTART. -/

namespace Sys2Proof.Machine

/-- The power-on state with the levels at the pins, keeping the model's own queue and free-order counter. -/
def State.powerOnWith (pins : Pins) (s : State) : State :=
  { State.powerOn pins with choices := s.choices, pending := s.pending }

/-- A head record after RESTART: the static part but for the pending slot (R45). -/
def Head.restarted (x : Head) : Head := { x.cleared with pendingSlot := none }

/-- The reset of a RESTART in every block (R16, R45, R69, R83, R102, R116, R134, R149, R161, R169, R171). -/
def State.restart (s : State) : State :=
  { s with
    tracker := ⟨s.tracker.geometry, 0, 0, 0, .unreferenced⟩
    heads := Vector.ofFn fun h : HeadId => (s.head h).restarted
    inFlight := 0
    lanes := Vector.ofFn fun h : HeadId => { s.lane h with lastSample := (s.lane h).counter }
    reservation := none
    slots := Vector.ofFn fun k : SlotId =>
      { s.slot k with bindings := s.countHeads fun x => decide (x.active = some k) }
    pendingChangeovers := 0
    outputs := Vector.ofFn fun h : HeadId =>
      derived s.drive (s.profileOf h) (s.head h).restarted { s.output h with vent := false }
    reports := ⟨[], 0, 0, s.reports.threshold⟩
    mode := Mode.afterReset s.pins.valvePower
    alarms := Alarms.afterReset s.pins.valvePower
    valvePower := s.pins.valvePower
    productReady := s.pins.productReady
    cal := Calibration.cleared
    cleaning := Cleaning.cleared
    link := { s.link.toHunt with tx := none, restartPending := false } }

/-- The row POWER_ON (R150), with the levels then at the pins (Log 8). A reset line held active stays held. -/
def execPowerOn (pins : PinLevels) (s : State) : Host.Outcome State Fault Refusal :=
  .next (s.powerOnWith ⟨pins.valvePower, pins.productReady, pins.contacts, pins.switches, s.pins.resetHeld⟩)

/-- The row RESET_LINE_ASSERT (R150): the line is held and every terminal goes to UNENERGIZED; the reset takes
effect at the release (Log 7). -/
def execResetLineAssert (s : State) : Host.Outcome State Fault Refusal :=
  .next { s.dropTerminals with pins := { s.pins with resetHeld := true } }

/-- The row RESET_LINE_RELEASE (R150, R171), with the setting of the address switches then (Log 8). A line that
is not held cannot be released (Log 9). -/
def execResetLineRelease (switches : Fin 16) (s : State) : Host.Outcome State Fault Refusal :=
  .next (if s.pins.resetHeld then s.powerOnWith { s.pins with switches := switches, resetHeld := false } else s)

end Sys2Proof.Machine
end

