-- ==== Sys2Proof/Machine/Scan.lean ====
section
/-! DEFINITION. The Dose Engine's events (chapter 3): the flowmeter pulses and the bank scan. -/

namespace Sys2Proof.Machine

/-- The row FLOWMETER_PULSE (R46). -/
def execFlowmeterPulse (h : HeadId) (s : State) : Host.Outcome State Fault Refusal :=
  .next (event (fun t =>
    { t with lanes := t.lanes.set h { t.lane h with counter := (t.lane h).counter + 1 } }) s)

/-! ### The work of a scan on each lane -/

/-- The raw delta of a head's lane (R48). -/
def State.rawDelta (s : State) (h : HeadId) : Nat := ((s.lane h).counter - (s.lane h).lastSample).toNat

/-- Whether a head is metered: in a fill stage or in CLOSING (R49). -/
def CycleState.metered (c : CycleState) : Bool := c.isFillStage || decide (c = .closing)

/-- The work of a scan on the fill of a head, if the head is metered and holds a fill context (R49, R50). -/
def State.laneWork (s : State) (h : HeadId) : Option LaneWork :=
  match (s.head h).fill with
  | some c =>
    if (s.head h).cycle.metered then
      some (scanFill (s.recipe c.slot) (s.head h).cycle (s.rawDelta h) c)
    else none
  | none => none

/-- What DE decides for a head at a scan; a lane without metered work has no decision. -/
def State.decision (s : State) (h : HeadId) : Decision := ((s.laneWork h).map LaneWork.decision).getD .stay

/-- A head's record after DE's work on its lane. -/
def State.meteredHead (s : State) (h : HeadId) : Head :=
  match s.laneWork h with
  | some w => { s.head h with fill := some w.context }
  | none => s.head h

/-- A head's cleaning counter after a scan of its lane: in CLEAN_OPEN the raw delta times the meter factor is
added (R166, Log 17). -/
def State.cleanedVolume (s : State) (h : HeadId) : Nat :=
  if (s.head h).cycle = .cleanOpen then sat64 (s.cleaning.counters[h] + s.rawDelta h * (s.head h).factor)
  else s.cleaning.counters[h]

/-- DE's work on the sixteen lanes of a bank (R47 to R62): each lane reads and writes its own sample and its own
head's context, so the lanes need no order. -/
def State.scanLanes (b : BankId) (s : State) : State :=
  { s with
    lanes := Vector.ofFn fun h : HeadId =>
      if h.val / 16 = b.val then { s.lane h with lastSample := (s.lane h).counter } else s.lane h
    heads := Vector.ofFn fun h : HeadId => if h.val / 16 = b.val then s.meteredHead h else s.head h
    cleaning := { s.cleaning with
      counters := Vector.ofFn fun h : HeadId =>
        if h.val / 16 = b.val then s.cleanedVolume h else s.cleaning.counters[h] } }

/-! ### The decisions at the heads -/

/-- The abort for stuck meter at a head (R32), or the early end of a calibration run (R157). -/
def State.stuckAbort (h : HeadId) (s : State) : State :=
  if s.mode = .calibration then s.endRun h .abortedStuck .armed else s.abortFill h .meterStuck

/-- A head takes a decision of DE (R29). -/
def State.takeDecision (d : Decision) (h : HeadId) (s : State) : State :=
  match d with
  | .stay => s
  | .close => s.enterClosing h false
  | .toTopUp => s.enter h .fillTopUp none
  | .toFast => s.enter h .fillFast none
  | .abortStuck => s.stuckAbort h

/-- The heads of a bank that a scan aborts for a stuck meter, in the order they are taken: free, since the lanes
of a scan carry no order among themselves (R47, Log 13). -/
def abortOrder (choice : Nat) (aborted : List HeadId) : List HeadId :=
  aborted.insertionSort fun a b => Config.abortRank choice a ≤ Config.abortRank choice b

/-- The heads of a bank whose fill the scan aborts. -/
def State.abortedBy (b : BankId) (s : State) : List HeadId :=
  (bankHeads b).filter fun h => decide (s.decision h = .abortStuck)

/-- The heads of a bank that the scan closes or moves to another stage. -/
def State.movedBy (b : BankId) (s : State) : List HeadId :=
  (bankHeads b).filter fun h => decide (s.decision h ≠ .abortStuck)

/-- One scan of a bank (R47): DE's work on the lanes, then the decisions at the heads. Closes and stage changes
touch their own heads alone; where two fills or more are aborted, the free order moves on (Log 13). -/
def State.scanBank (b : BankId) (s : State) : State :=
  let aborted := s.abortedBy b
  let moved := (s.movedBy b).foldl (fun t h => t.takeDecision (s.decision h) h) (s.scanLanes b)
  (abortOrder s.choices aborted).foldl (fun t h => t.takeDecision .abortStuck h)
    { moved with choices := if 2 ≤ aborted.length then s.choices + 1 else s.choices }

/-- The row BANK_SCAN (R47). -/
def execBankScan (b : BankId) (s : State) : Host.Outcome State Fault Refusal :=
  .next (event (State.scanBank b) s)

end Sys2Proof.Machine
end

