-- ==== Sys2Proof/Machine/LinkEvents.lean ====
section
/-! DEFINITION. The Link Interface's events (chapter 11): the bytes on the pair, the gap timer, and the end of a
reply. -/

namespace Sys2Proof.Machine

/-- What the owning block answers to a request that LI hands it (R175, R178). An event of the part is no
request. -/
def answerRequest : Instr → State → State × Answer
  | .readStatus => readStatus
  | .setGeometry g => setGeometry g
  | .readGeometry => readGeometry
  | .setValveProfile profile fields => setValveProfile profile fields
  | .readValveProfile profile => readValveProfile profile
  | .setHead head profile factor => setHead head profile factor
  | .readHead head => readHead head
  | .enableHeads mask => enableHeads mask
  | .disableHeads mask => disableHeads mask
  | .loadRecipe slot recipe => loadRecipe slot recipe
  | .readRecipe slot => readRecipe slot
  | .unloadRecipe slot => unloadRecipe slot
  | .bindRecipe mask slot => bindRecipe mask slot
  | .readCorrections slot => readCorrections slot
  | .readCorrectionForEdit head slot => readCorrectionForEdit head slot
  | .writeCorrection head slot value => writeCorrection head slot value
  | .restoreCorrections slot values => restoreCorrections slot values
  | .startProduction => startProduction
  | .stop => stopRequest
  | .halt _ => haltRequest
  | .clearHalt => clearHalt
  | .startCleaning openTime pauseTime cycles => startCleaning openTime pauseTime cycles
  | .readCleaningVolumes => readCleaningVolumes
  | .startCalibration head target => startCalibration head target
  | .enterActualVolume volume => enterActualVolume volume
  | .endCalibration => endCalibrationRequest
  | .peekReports n => peekReports n
  | .discardReports n => discardReports n
  | .setReporting threshold => setReporting threshold
  | .acknowledgeAlarms mask => acknowledgeAlarms mask
  | .restart => restartRequest
  | .unknownRequest _ => unknownRequest
  | .byteArrival _ => unknownRequest
  | .gapTimerExpiry => unknownRequest
  | .replySent => unknownRequest
  | .encoderForwardStep => unknownRequest
  | .encoderBackwardStep => unknownRequest
  | .indexMarkStep => unknownRequest
  | .quadratureError => unknownRequest
  | .contactArrival _ => unknownRequest
  | .contactLoss _ => unknownRequest
  | .contactWindowExpiry _ => unknownRequest
  | .pressurizeDwellExpiry _ => unknownRequest
  | .settleExpiry _ => unknownRequest
  | .sniftDwellExpiry _ => unknownRequest
  | .ventDwellExpiry _ => unknownRequest
  | .millisecondTick => unknownRequest
  | .flowmeterPulse _ => unknownRequest
  | .bankScan _ => unknownRequest
  | .openPhaseExpiry => unknownRequest
  | .pausePhaseExpiry => unknownRequest
  | .valvePowerLoss => unknownRequest
  | .valvePowerReturn => unknownRequest
  | .productReadyChange _ => unknownRequest
  | .powerOn _ => unknownRequest
  | .resetLineAssert => unknownRequest
  | .resetLineRelease _ => unknownRequest

/-- An addressed request frame, by its code and payload (R175): an unrecognised code, a wrong length, or the
request handed to its block. -/
def serveRequest (code : Nat) (payload : List Byte) (s : State) : State × Answer :=
  match decodeRequest code payload with
  | .ok i => answerRequest i s
  | .error .unknownRequest => refuse .unknownRequest s
  | .error .badLength => refuse .badLength s

/-- The byte at an offset of a frame. -/
def byteAt (frame : List Byte) (i : Nat) : Nat := (frame.getD i 0).toNat

/-- The payload of a request frame (R170): from offset 5 to the check bytes. -/
def framePayload (frame : List Byte) : List Byte := (frame.drop 5).take (frame.length - 7)

/-- The frame check (R173): the CRC of the bytes from the address to the last payload byte against the two check
bytes. -/
def checkPasses (frame : List Byte) : Bool :=
  decide (crcBytes ((frame.drop 1).take (frame.length - 3)) = frame.drop (frame.length - 2))

/-- A complete frame is checked (R173) and judged by its address (R174). LI holds no byte of it afterwards
(Log 6). -/
def takeFrame (frame : List Byte) (s : State) : State :=
  let t := s.toHunt
  if checkPasses frame = false then t
  else if byteAt frame 1 = 0 then
    if byteAt frame 2 = 0x14 ∧ framePayload frame = [] then t.haltAll else t
  else if byteAt frame 1 = s.link.node.val then
    reply (byteAt frame 2) (serveRequest (byteAt frame 2) (framePayload frame) t)
  else t

/-- How far LI is with the bytes it holds (R172). -/
inductive FrameProgress where
  | more
  | complete
  | tooLong
  deriving DecidableEq, Repr

/-- The layout by the address byte, the length once it has arrived, and the completion (R172): an address byte
below 128 has the request layout of R170, another the reply layout of R176. -/
def frameProgress (buffer : List Byte) : FrameProgress :=
  let n := buffer.length
  if n < 2 then .more
  else
    let lengthAt := if byteAt buffer 1 < 128 then 3 else 9
    let overhead := if byteAt buffer 1 < 128 then 7 else 13
    if n < lengthAt + 2 then .more
    else
      let length := fieldAt buffer lengthAt 2
      if 400 < length then .tooLong else if n < overhead + length then .more else .complete

/-- A byte on the pair, by the receive state (R172). -/
def receiveByte (b : Byte) (s : State) : State :=
  match s.link.rx with
  | .hunt =>
    if b = 0xC3#8 then { s with link := { s.link with rx := .receiving, buffer := [b], gapRunning := true } } else s
  | .receiving =>
    let buffer := s.link.buffer ++ [b]
    match frameProgress buffer with
    | .more => { s with link := { s.link with buffer := buffer, gapRunning := true } }
    | .tooLong => s.toHunt
    | .complete => takeFrame buffer s
  | .transmitting => s

/-- The row BYTE_ARRIVAL (R172). -/
def execByteArrival (b : Byte) (s : State) : Host.Outcome State Fault Refusal := .next (event (receiveByte b) s)

/-- The row GAP_TIMER_EXPIRY (R172): in RECEIVING the frame is abandoned (Log 9). -/
def execGapTimerExpiry (s : State) : Host.Outcome State Fault Refusal :=
  .next (event (fun t => if t.link.rx = .receiving then t.toHunt else t) s)

/-- The row REPLY_SENT (R176): LI goes to HUNT, and the reset of a RESTART takes effect (R149). -/
def execReplySent (s : State) : Host.Outcome State Fault Refusal :=
  .next (event (fun t =>
    if t.link.rx = .transmitting then
      if t.link.restartPending then t.restart else { t.toHunt with link := { t.link.toHunt with tx := none } }
    else t) s)

end Sys2Proof.Machine
end

