-- ==== Sys2Proof/Machine/Dispatch.lean ====
section
/-! DEFINITION. exec: one arm for each command, each one direct call of its meaning. -/

namespace Sys2Proof.Machine

/-- The effect of a command on everything but the queue. -/
def exec (i : Instr) (s : State) : Host.Outcome State Fault Refusal :=
  match i with
  | .readStatus => Sys2Proof.Machine.execReadStatus s
  | .setGeometry g => Sys2Proof.Machine.execSetGeometry g s
  | .readGeometry => Sys2Proof.Machine.execReadGeometry s
  | .setValveProfile profile fields => Sys2Proof.Machine.execSetValveProfile profile fields s
  | .readValveProfile profile => Sys2Proof.Machine.execReadValveProfile profile s
  | .setHead head profile factor => Sys2Proof.Machine.execSetHead head profile factor s
  | .readHead head => Sys2Proof.Machine.execReadHead head s
  | .enableHeads mask => Sys2Proof.Machine.execEnableHeads mask s
  | .disableHeads mask => Sys2Proof.Machine.execDisableHeads mask s
  | .loadRecipe slot recipe => Sys2Proof.Machine.execLoadRecipe slot recipe s
  | .readRecipe slot => Sys2Proof.Machine.execReadRecipe slot s
  | .unloadRecipe slot => Sys2Proof.Machine.execUnloadRecipe slot s
  | .bindRecipe mask slot => Sys2Proof.Machine.execBindRecipe mask slot s
  | .readCorrections slot => Sys2Proof.Machine.execReadCorrections slot s
  | .readCorrectionForEdit head slot => Sys2Proof.Machine.execReadCorrectionForEdit head slot s
  | .writeCorrection head slot value => Sys2Proof.Machine.execWriteCorrection head slot value s
  | .restoreCorrections slot values => Sys2Proof.Machine.execRestoreCorrections slot values s
  | .startProduction => Sys2Proof.Machine.execStartProduction s
  | .stop => Sys2Proof.Machine.execStop s
  | .halt broadcast => Sys2Proof.Machine.execHalt broadcast s
  | .clearHalt => Sys2Proof.Machine.execClearHalt s
  | .startCleaning openTime pauseTime cycles => Sys2Proof.Machine.execStartCleaning openTime pauseTime cycles s
  | .readCleaningVolumes => Sys2Proof.Machine.execReadCleaningVolumes s
  | .startCalibration head target => Sys2Proof.Machine.execStartCalibration head target s
  | .enterActualVolume volume => Sys2Proof.Machine.execEnterActualVolume volume s
  | .endCalibration => Sys2Proof.Machine.execEndCalibration s
  | .peekReports n => Sys2Proof.Machine.execPeekReports n s
  | .discardReports n => Sys2Proof.Machine.execDiscardReports n s
  | .setReporting threshold => Sys2Proof.Machine.execSetReporting threshold s
  | .acknowledgeAlarms mask => Sys2Proof.Machine.execAcknowledgeAlarms mask s
  | .restart => Sys2Proof.Machine.execRestart s
  | .unknownRequest code => Sys2Proof.Machine.execUnknownRequest code s
  | .byteArrival b => Sys2Proof.Machine.execByteArrival b s
  | .gapTimerExpiry => Sys2Proof.Machine.execGapTimerExpiry s
  | .replySent => Sys2Proof.Machine.execReplySent s
  | .encoderForwardStep => Sys2Proof.Machine.execEncoderForwardStep s
  | .encoderBackwardStep => Sys2Proof.Machine.execEncoderBackwardStep s
  | .indexMarkStep => Sys2Proof.Machine.execIndexMarkStep s
  | .quadratureError => Sys2Proof.Machine.execQuadratureError s
  | .contactArrival h => Sys2Proof.Machine.execContactArrival h s
  | .contactLoss h => Sys2Proof.Machine.execContactLoss h s
  | .contactWindowExpiry h => Sys2Proof.Machine.execContactWindowExpiry h s
  | .pressurizeDwellExpiry h => Sys2Proof.Machine.execPressurizeDwellExpiry h s
  | .settleExpiry h => Sys2Proof.Machine.execSettleExpiry h s
  | .sniftDwellExpiry h => Sys2Proof.Machine.execSniftDwellExpiry h s
  | .ventDwellExpiry h => Sys2Proof.Machine.execVentDwellExpiry h s
  | .millisecondTick => Sys2Proof.Machine.execMillisecondTick s
  | .flowmeterPulse h => Sys2Proof.Machine.execFlowmeterPulse h s
  | .bankScan bank => Sys2Proof.Machine.execBankScan bank s
  | .openPhaseExpiry => Sys2Proof.Machine.execOpenPhaseExpiry s
  | .pausePhaseExpiry => Sys2Proof.Machine.execPausePhaseExpiry s
  | .valvePowerLoss => Sys2Proof.Machine.execValvePowerLoss s
  | .valvePowerReturn => Sys2Proof.Machine.execValvePowerReturn s
  | .productReadyChange high => Sys2Proof.Machine.execProductReadyChange high s
  | .powerOn pins => Sys2Proof.Machine.execPowerOn pins s
  | .resetLineAssert => Sys2Proof.Machine.execResetLineAssert s
  | .resetLineRelease switches => Sys2Proof.Machine.execResetLineRelease switches s

end Sys2Proof.Machine
end

