-- ==== Sys2Proof/WellFormed.lean ====
section
/-! DEFINITION. When a command can be spelled on the link: every operand fits its wire field (R178, R181).
A well-formed command may still carry a value its owning rule refuses. -/

namespace Sys2Proof

/-- A Nat that fits `k` bytes of the link. -/
def fitsBytes (k n : Nat) : Bool := decide (n < 256 ^ k)

/-- A signed value that fits two bytes in two's complement (R178). -/
def fitsSigned16 (v : Int) : Bool := decide (-32768 ≤ v) && decide (v ≤ 32767)

/-- The widths of the geometry record of R181. -/
def Geometry.wellFormed (g : Geometry) : Bool :=
  fitsBytes 1 g.headCount && fitsBytes 2 g.cpr && fitsBytes 2 g.zeroOffset && fitsBytes 2 g.infeed &&
    fitsBytes 2 g.latestClose && fitsBytes 2 g.discharge && fitsBytes 1 g.indexTolerance &&
    fitsBytes 2 g.reverseTolerance && fitsBytes 1 g.lockoutThreshold

/-- The widths of the recipe record of R181. -/
def Recipe.wellFormed (r : Recipe) : Bool :=
  fitsBytes 4 r.target && fitsBytes 4 r.softStart && fitsBytes 4 r.topUpBand && fitsBytes 2 r.toleranceBelow &&
    fitsBytes 2 r.toleranceAbove && fitsBytes 2 r.contactWindow && fitsBytes 2 r.pressurizeDwell &&
    fitsBytes 2 r.settleTime && fitsBytes 2 r.sniftDwell && fitsBytes 2 r.stuckWindow &&
    fitsBytes 2 r.pulseCeiling && fitsBytes 1 r.smoothing && fitsBytes 1 r.gain && fitsBytes 2 r.outlierLimit

/-- The widths of the SET VALVE PROFILE payload of R178. -/
def ProfileFields.wellFormed (f : ProfileFields) : Bool :=
  fitsBytes 2 f.openLag && fitsBytes 2 f.closingLag && fitsBytes 1 f.gasPolarity && fitsBytes 1 f.widePolarity &&
    fitsBytes 1 f.narrowPolarity && fitsBytes 1 f.sniftPolarity && fitsBytes 1 f.fastDrive

/-- Every operand of the command fits its field on the link; an UNKNOWN_REQUEST carries a code that R178 does
not list. The events of the part have operands that are in range by their types. -/
def Instr.wellFormed : Instr → Bool
  | .readStatus => true
  | .setGeometry g => g.wellFormed
  | .readGeometry => true
  | .setValveProfile profile fields => fitsBytes 1 profile && fields.wellFormed
  | .readValveProfile profile => fitsBytes 1 profile
  | .setHead head profile factor => fitsBytes 1 head && fitsBytes 1 profile && fitsBytes 2 factor
  | .readHead head => fitsBytes 1 head
  | .enableHeads _ => true
  | .disableHeads _ => true
  | .loadRecipe slot recipe => fitsBytes 1 slot && recipe.wellFormed
  | .readRecipe slot => fitsBytes 1 slot
  | .unloadRecipe slot => fitsBytes 1 slot
  | .bindRecipe _ slot => fitsBytes 1 slot
  | .readCorrections slot => fitsBytes 1 slot
  | .readCorrectionForEdit head slot => fitsBytes 1 head && fitsBytes 1 slot
  | .writeCorrection head slot value => fitsBytes 1 head && fitsBytes 1 slot && fitsSigned16 value
  | .restoreCorrections slot values => fitsBytes 1 slot && values.toList.all fitsSigned16
  | .startProduction => true
  | .stop => true
  | .halt _ => true
  | .clearHalt => true
  | .startCleaning openTime pauseTime cycles => fitsBytes 2 openTime && fitsBytes 2 pauseTime && fitsBytes 1 cycles
  | .readCleaningVolumes => true
  | .startCalibration head target => fitsBytes 1 head && fitsBytes 4 target
  | .enterActualVolume volume => fitsBytes 4 volume
  | .endCalibration => true
  | .peekReports n => fitsBytes 1 n
  | .discardReports n => fitsBytes 2 n
  | .setReporting threshold => fitsBytes 1 threshold
  | .acknowledgeAlarms _ => true
  | .restart => true
  | .unknownRequest code => fitsBytes 1 code && (decide (code = 0) || decide (0x1F < code))
  | .byteArrival _ => true
  | .gapTimerExpiry => true
  | .replySent => true
  | .encoderForwardStep => true
  | .encoderBackwardStep => true
  | .indexMarkStep => true
  | .quadratureError => true
  | .contactArrival _ => true
  | .contactLoss _ => true
  | .contactWindowExpiry _ => true
  | .pressurizeDwellExpiry _ => true
  | .settleExpiry _ => true
  | .sniftDwellExpiry _ => true
  | .ventDwellExpiry _ => true
  | .millisecondTick => true
  | .flowmeterPulse _ => true
  | .bankScan _ => true
  | .openPhaseExpiry => true
  | .pausePhaseExpiry => true
  | .valvePowerLoss => true
  | .valvePowerReturn => true
  | .productReadyChange _ => true
  | .powerOn _ => true
  | .resetLineAssert => true
  | .resetLineRelease _ => true

end Sys2Proof
end

