-- ==== Sys2Proof/Safety.lean ====
section
/-! DEFINITION. The terms in which claims about the D64 are stated: when a command is taken, what a reply is, the
angles and reports as the rules give them, and the invariants that every step keeps. -/

namespace Sys2Proof.Machine

/-! ### Commands and replies -/

/-- The reset line is not held, so events act (R150). -/
def State.running (s : State) : Bool := !s.pins.resetHeld

/-- LI takes an addressed request: the reset line is released (R150), no reply is being sent (R172), and the
node has an address (R171). -/
def State.listening (s : State) : Bool :=
  s.running && decide (s.link.rx ≠ .transmitting) && decide (s.link.node ≠ 0)

/-- The state `u` with the reply to a request started from it (R176): LI transmits, holds no byte, and the reply
carries the summary of `u`. -/
def State.answered (u : State) (code : Nat) (st : Status) (payload : List Byte) : State :=
  { u with
    link := { u.link with
      rx := .transmitting
      buffer := []
      gapRunning := false
      tx := some ⟨u.link.node.val, code, st, u.summary, payload⟩ } }

/-- The state with LI in HUNT, no byte held and the gap timer stopped (R172). -/
def State.hunting (s : State) : State :=
  { s with link := { s.link with rx := .hunt, buffer := [], gapRunning := false } }

/-- The rows that are addressed requests (R175): every one of R178, and a request with another code. -/
def isRequest (i : Instr) : Bool :=
  match i with
  | .halt broadcast => !broadcast
  | .unknownRequest _ => true
  | j => (encodeRequest j).isSome

/-- The request length that R178 gives for a code; none for a code it does not list. -/
def requestLength (code : Nat) : Option Nat :=
  if code = 0 then none
  else [0, 15, 0, 10, 1, 4, 1, 8, 8, 33, 1, 1, 9, 1, 2, 4, 129, 0, 0, 0, 0, 5, 0, 5, 4, 0, 1, 2, 1, 1, 0][code - 1]?

/-- A row that acts while the reset line is held: a change of a level at a pin, power-on, and the line itself
(R150, Log 7). -/
def actsHeld : Instr → Bool
  | .contactArrival _ => true
  | .contactLoss _ => true
  | .valvePowerLoss => true
  | .valvePowerReturn => true
  | .productReadyChange _ => true
  | .powerOn _ => true
  | .resetLineAssert => true
  | .resetLineRelease _ => true
  | _ => false

/-- Bytes arriving one after the other (R172). -/
def deliver : List Byte → State → Host.Outcome State Fault Refusal
  | [], s => .next s
  | b :: bs, s =>
    match exec (.byteArrival b) s with
    | .next t => deliver bs t
    | .fault f => .fault f
    | .refused r => .refused r

/-- The frame check of R173 over a list of bytes, on numbers: the register starts at 65,535; each byte goes into its
upper eight bits, and eight times it is doubled, with the exclusive-or of 0x1021 when a bit leaves it. -/
def frameCheck (bytes : List Byte) : Nat := bytes.foldl (fun r b => shifted^[8] (r ^^^ (256 * b.toNat))) 65535
where
  /-- One shift of the register. -/
  shifted (r : Nat) : Nat := if 32768 ≤ r then (2 * r - 65536) ^^^ 0x1021 else 2 * r

/-- The mode is STANDBY or HALTED (R2, R18, R74, R105). -/
def State.idleMode (s : State) : Bool := decide (s.mode = .standby) || decide (s.mode = .halted)

/-- The mode is PRODUCTION or DRAINING (R9). -/
def State.fillingMode (s : State) : Bool := decide (s.mode = .production) || decide (s.mode = .draining)

/-- The production cycle runs, and one head out of flight does not end DRAINING (R138). -/
def State.keepsFilling (s : State) : Bool :=
  decide (s.mode = .production) || (decide (s.mode = .draining) && decide (1 < s.inFlight))

/-- The in-flight count is the number of heads in flight (R42). -/
def State.flightCounted (s : State) : Prop := s.inFlight = allHeads.countP fun h => (s.head h).cycle.inFlight

/-- The state with a new level recorded at the contact input of a head (R22). -/
def State.withContact (s : State) (h : HeadId) (level : Bool) : State :=
  { s with pins := { s.pins with contacts := s.pins.contacts.set h level } }

/-! ### Geometry and arrivals -/

/-- The record is one that SET GEOMETRY accepts by its ranges and angles (R1). -/
def geometryAcceptable (g : Geometry) : Bool :=
  decide (8 ≤ g.headCount ∧ g.headCount ≤ 64) && decide (1024 ≤ g.cpr ∧ g.cpr ≤ 65535) &&
    decide (g.zeroOffset ≤ 65535) && decide (g.infeed ≤ 65535) && decide (g.latestClose ≤ 65535) &&
    decide (g.discharge ≤ 65535) && decide (g.indexTolerance ≤ 255) && decide (g.reverseTolerance ≤ 4095) &&
    decide (g.lockoutThreshold ≤ 15) && decide (g.infeed + 256 ≤ g.latestClose) &&
    decide (g.latestClose + 256 ≤ g.discharge)

/-- The fields of the refused class of a LOAD RECIPE lie in their ranges (R85, R86). -/
def recipeLoadable (r : Recipe) : Bool :=
  decide (10000 ≤ r.target ∧ r.target ≤ 3000000) && decide (r.softStart ≤ r.target / 2) &&
    decide (r.topUpBand + r.softStart ≤ r.target) && decide (r.toleranceBelow ≤ 50000) &&
    decide (r.toleranceAbove ≤ 50000) && decide (10 ≤ r.contactWindow ∧ r.contactWindow ≤ 2000) &&
    decide (r.pressurizeDwell ≤ 2000) && decide (5 ≤ r.settleTime ∧ r.settleTime ≤ 1000) &&
    decide (r.sniftDwell ≤ 2000) && decide (5 ≤ r.stuckWindow ∧ r.stuckWindow ≤ 1000)

/-- The recipe as an accepted LOAD RECIPE stores it (R88). -/
def recipeAsStored (r : Recipe) : Recipe :=
  { r with
    pulseCeiling := if r.pulseCeiling = 0 then 1 else if 1023 < r.pulseCeiling then 1023 else r.pulseCeiling
    smoothing := if 4 < r.smoothing then 4 else r.smoothing
    gain := if 16 < r.gain then 16 else r.gain
    outlierLimit := if 20000 < r.outlierLimit then 20000 else r.outlierLimit }

/-- The clamp mask of the reply, as a number (R88, R178). -/
def clampMarks (r : Recipe) : Nat :=
  (if r.pulseCeiling = 0 ∨ 1023 < r.pulseCeiling then 1 else 0) + (if 4 < r.smoothing then 2 else 0) +
    (if 16 < r.gain then 4 else 0) + (if 20000 < r.outlierLimit then 8 else 0)

/-- The distance of boundary `b` of head `h` ahead of count `c`, as an integer modulo 65,536 (R5, R8). -/
def distanceAhead (g : Geometry) (c : Nat) (b : Boundary) (h : HeadId) : Int :=
  ((boundaryAngle g b : Int) -
    (((c * 65536 / g.cpr : Nat) : Int) - g.zeroOffset - ((h.val * 65536 / g.headCount : Nat) : Int))) % 65536

/-- The span of the forward step from count `c`, as an integer modulo 65,536 (R4). -/
def spanAhead (g : Geometry) (c : Nat) : Int :=
  ((((c + 1) % g.cpr * 65536 / g.cpr : Nat) : Int) - ((c * 65536 / g.cpr : Nat) : Int)) % 65536

/-- The forward crossing from count `c` raises the arrival of boundary `b` at head `h` (R8). -/
def raisesAt (g : Geometry) (c : Nat) (b : Boundary) (h : HeadId) : Bool :=
  decide (h.val < g.headCount) && decide (1 ≤ distanceAhead g c b h) &&
    decide (distanceAhead g c b h ≤ spanAhead g c)

/-- The forward crossing from count `c` takes the last heads out of flight in DRAINING: there are heads in flight, and
each of them has its discharge arrival (R37, R138). -/
def crossingEndsDraining (s : State) : Prop :=
  s.mode = .draining ∧ (∃ g, (s.head g).cycle.inFlight = true) ∧
    ∀ g, (s.head g).cycle.inFlight = true → raisesAt s.tracker.geometry s.tracker.count .discharge g = true

/-! ### Heads and reports -/

/-- The states in which a head holds a fill context (R22). -/
def CycleState.holdsFill (c : CycleState) : Bool :=
  c.isFillStage || decide (c = .pressurize) || decide (c = .closing) || decide (c = .snift)

/-- The record a head has once its pass is over without a lockout: IDLE, no timer, no context, contact seen
clear, the static part kept. -/
def Head.atRest (x : Head) : Head :=
  { x with cycle := .idle, contactSeen := false, timer := none, fill := none }

/-- The report of a fill as RQ stores it (R40, R117), with its number and the lost-before count. -/
def storedFill (q : ReportQueue) (h : HeadId) (c : FillContext) (v : Verdict) : Report where
  sequence := q.sequence
  head := h
  slot := some c.slot
  verdict := v
  flags := c.flags
  finalVolume := (c.delivered + 500) / 1000
  target := (c.target + 500) / 1000
  correction := if c.correction < 0 then -(((-c.correction + 500) / 1000 : Int)) else (c.correction + 500) / 1000
  duration := c.duration
  lostBefore := q.lost

/-- The queue after one record is stored (R120, R121). -/
def ReportQueue.stored (q : ReportQueue) (r : Report) : ReportQueue :=
  { q with records := q.records ++ [r], sequence := q.sequence + 1, lost := 0 }

/-- What a head files at a halt of the heads, sequence and lost before still 0 (R44). -/
def haltContent (s : State) (h : HeadId) : Option Report :=
  if (s.head h).cycle.holdsFill then
    (s.head h).fill.map fun c => { storedFill s.reports h c .halted with sequence := 0, lostBefore := 0 }
  else if (s.head h).cycle = .skip ∧ (s.head h).contactSeen = true then
    some ⟨0, h, (s.head h).active, .unfilled, FillFlags.clear, 0, 0, 0, 0, 0⟩
  else none

/-- What a head files at the end of DRAINING (R43). -/
def drainContent (s : State) (h : HeadId) : Option Report :=
  if (s.head h).cycle = .skip ∧ (s.head h).contactSeen = true then
    some ⟨0, h, (s.head h).active, .unfilled, FillFlags.clear, 0, 0, 0, 0, 0⟩
  else none

/-- The queue after one record is handed over: stored where there is room (R121), else lost (R122). -/
def ReportQueue.filed (q : ReportQueue) (r : Report) : ReportQueue :=
  if q.records.length < 256 then q.stored r else { q with sequence := q.sequence + 1, lost := q.lost + 1 }

/-- The queue after a list of records is numbered and handed over in order (R120 to R122, R124). -/
def ReportQueue.filedAll : ReportQueue → List Report → ReportQueue
  | q, [] => q
  | q, r :: rs => (q.filed { r with sequence := q.sequence, lostBefore := q.lost }).filedAll rs

/-- The alarms after `n` records are handed over: REPORT_OVERFLOW is latched if one finds no room (R122). -/
def State.alarmsFiled (s : State) (n : Nat) : Alarms :=
  { s.alarms with
    reportOverflow :=
      s.alarms.reportOverflow || (decide (n ≠ 0) && decide (256 < s.reports.records.length + n)) }

/-- The fault count after a verdict that counts as a fault (R41). -/
def raisedFaults (x : Head) : Nat := if x.faults + 1 ≤ 15 then x.faults + 1 else 15

/-- Whether a fault locks the head out (R41). At a count already held at 15 the fault counts as an increase
(DESIGN CHOICE, Log 24). -/
def lockedAt (threshold : Nat) (x : Head) : Bool :=
  decide (threshold ≠ 0) && decide (threshold ≤ raisedFaults x) && decide (x.enable = .enabled)

/-- A head's raw delta at a scan (R48). -/
def State.scanDelta (s : State) (h : HeadId) : Nat :=
  ((s.lane h).counter.toNat + 65536 - (s.lane h).lastSample.toNat) % 65536

/-- A scan of head `h` finds its meter stuck (R53, R57, R58): a fill stage past its grace, no pulse used, and the
zero-scan count at the stuck limit with this scan. -/
def State.stuckAt (s : State) (h : HeadId) : Bool :=
  match (s.head h).fill with
  | none => false
  | some c =>
    let r := s.recipe c.slot
    (s.head h).cycle.isFillStage && decide (c.grace = 0) && decide (min r.pulseCeiling (s.scanDelta h) = 0) &&
      decide ((r.stuckWindow * 1000 + 255) / 256 ≤ c.zeroScans + 1)

/-- A scan of bank `b` takes the last heads out of flight in DRAINING: there are heads in flight, and the scan aborts
each of them for a stuck meter (R32, R138). -/
def scanEndsDraining (b : BankId) (s : State) : Prop :=
  s.mode = .draining ∧ (∃ g, (s.head g).cycle.inFlight = true) ∧
    ∀ g, (s.head g).cycle.inFlight = true → g.val / 16 = b.val ∧ s.stuckAt g = true

/-- The verdict of a fill at its snift dwell expiry (R65, conditions 5 to 8; R66). -/
def judgedVerdict (r : Recipe) (c : FillContext) : Verdict :=
  if c.flags.overrange = true then .meterFault
  else if c.delivered + r.toleranceBelow * 1000 < c.target then
    (if c.flags.late = true then .late else .underfill)
  else if c.target + r.toleranceAbove * 1000 < c.delivered then
    (if c.flags.late = true then .late else .overfill)
  else .accept

/-- Whether the verdict of a judged fill locks its head out (R41). -/
def judgedLock (threshold : Nat) (v : Verdict) (x : Head) : Bool := decide (v ≠ .accept) && lockedAt threshold x

/-- The record of a head whose fill was judged: DONE, without context, the verdict counted (R36, R40, R41). -/
def judgedHead (threshold : Nat) (v : Verdict) (x : Head) : Head :=
  { x with
    cycle := .done
    timer := none
    fill := none
    faults := if v = .accept then 0 else raisedFaults x
    enable := if judgedLock threshold v x then .lockedOut else x.enable }

/-- The outcome of a calibration run that reached DONE (R156). -/
def judgedRun (c : FillContext) : CalOutcome :=
  if c.flags.overrange = true then .overrange else if c.delivered < 1000000 then .tooSmall else .complete

/-- The fill context latched at a PRESSURIZE entry (R51, R52), with target `T` in nL. -/
def latchedContext (s : State) (h : HeadId) (k : SlotId) (T : Nat) (changeover : Bool) : FillContext where
  slot := k
  target := T
  correction := s.correction h k
  closeTarget := (max 0 (min 4294967295 ((T : Int) - s.correction h k))).toNat
  closingLag := (s.profiles[(s.head h).profile]).closingLag
  factor := (s.head h).factor
  delivered := 0
  flow := 0
  zeroScans := 0
  grace := ((s.profiles[(s.head h).profile]).openLag + 255) / 256
  startTime := s.clock
  duration := 0
  flags := ⟨false, false, false, false, changeover⟩

/-- The correction nearest to a value within the bounds (R70). -/
def boundedCorrection (v : Int) : Int := if v < -20000000 then -20000000 else if 20000000 < v then 20000000 else v

/-- A correction in µL at the link: the magnitude rounded to nearest, a half up, with its sign (R67). -/
def linkCorrection (v : Int) : Int := if v < 0 then -((-v + 500) / 1000) else (v + 500) / 1000

/-- The reservation that is left when the events of R73 and R74 act on a slot. -/
def reservationWithout (k : SlotId) : Option (HeadId × SlotId) → Option (HeadId × SlotId)
  | some (h, j) => if j = k then none else some (h, j)
  | none => none

/-- What power-on and the release of the reset line leave, given the levels then at the pins (R16, R45, R69, R83,
R102, R115, R134, R150, R161, R169, R171). -/
def PowerOnValues (pins : Pins) (t : State) : Prop :=
  t.tracker = ⟨⟨0, 4096, 0, 8192, 24576, 40960, 8, 64, 3⟩, 0, 0, 0, .unreferenced⟩ ∧
    (∀ h, t.head h = ⟨.disabled, 0, 0, none, none, 0, .idle, false, none, none⟩) ∧ t.inFlight = 0 ∧
    t.clock = 0 ∧ (∀ h, t.lane h = ⟨0, 0⟩) ∧ (∀ h k, t.correction h k = 0) ∧ t.reservation = none ∧
    (∀ k, t.slot k = ⟨none, 0⟩) ∧ t.pendingChangeovers = 0 ∧
    (∀ p : ProfileId, t.profiles[p] = ⟨0, 0, .normal, .normal, .normal, .normal, .wideWithNarrow⟩) ∧
    (∀ h, t.output h = ⟨Outputs.allOff, false, Outputs.allOff⟩) ∧
    t.drive = (if pins.valvePower then .powered else .unpowered) ∧ t.reports = ⟨[], 0, 0, 224⟩ ∧
    t.mode = (if pins.valvePower then .standby else .halted) ∧
    t.alarms = ⟨false, false, !pins.valvePower, false, false⟩ ∧ t.valvePower = pins.valvePower ∧
    t.productReady = pins.productReady ∧ t.cal = ⟨none, none, .idle, none⟩ ∧
    t.cleaning = ⟨none, .idle, 0, 0, Vector.replicate 64 false, none, Vector.replicate 64 0,
      Vector.replicate 64 false, .none⟩ ∧
    t.link = ⟨pins.switches, .hunt, [], false, none, false⟩ ∧ t.pins = pins

/-- All heads at rest, every output closed and no vent, the terminals as the drive and the profiles give them,
nothing in flight (R43, R44, R109). -/
def HeadsAtRest (s t : State) : Prop :=
  (∀ h, t.head h = (s.head h).atRest) ∧
    (∀ h, t.output h =
      ⟨Outputs.allOff, false, terminalsOf s.drive s.profiles[(s.head h).profile] Outputs.allOff⟩) ∧
    t.inFlight = 0

/-- The last result of CU after a halt or END CALIBRATION (R159, R160): a run in DOSING is ABANDONED with D as the last
scan left it; otherwise the result is kept. -/
def State.resultCut (s : State) : Option CalResult :=
  match s.cal.state, s.cal.head with
  | .dosing, some h =>
    match (s.head h).fill with
    | some c => some ⟨h, .abandoned, c.delivered / c.factor, c.delivered, none, none, none⟩
    | none => s.cal.last
  | _, _ => s.cal.last

/-- The D64 halted from `s` as R139 states: the heads at rest, their reports filed in ascending head order, a
cleaning run INCOMPLETE, the mode HALTED; a calibration ends without a report, its run ABANDONED, CU in IDLE (R160);
everything else stays as it is. -/
def HaltedFrom (s t : State) : Prop :=
  let filed := if s.mode = .calibration then [] else allHeads.filterMap (haltContent s)
  HeadsAtRest s t ∧
    t = { s with
      heads := t.heads
      outputs := t.outputs
      inFlight := 0
      reports := s.reports.filedAll filed
      alarms := s.alarmsFiled filed.length
      mode := .halted
      cal := if s.mode = .calibration then ⟨none, none, .idle, s.resultCut⟩ else s.cal
      cleaning := if s.cleaning.phase = .idle then s.cleaning
        else { s.cleaning with phase := .idle, timer := none, result := .incomplete } }

/-- DRAINING ended from `s` as R138 and R43 state: the heads at rest, the skipped bottles that were present
reported in ascending head order, the mode STANDBY; everything else stays as it is. -/
def DrainedFrom (s t : State) : Prop :=
  let filed := allHeads.filterMap (drainContent s)
  HeadsAtRest s t ∧
    t = { s with
      heads := t.heads
      outputs := t.outputs
      inFlight := 0
      reports := s.reports.filedAll filed
      alarms := s.alarmsFiled filed.length
      mode := .standby }

/-- A calibration run of head `h` ended from `s` with an outcome: the head to IDLE with its outputs closed, CU in
state `u` with D and D div the meter factor as its result (R152, R156, R157); everything else stays as it is. -/
def RunEnded (s : State) (h : HeadId) (c : FillContext) (o : CalOutcome) (u : CalState) (t : State) : Prop :=
  t.head h = (s.head h).atRest ∧ (t.output h).opened = Outputs.allOff ∧
    (∀ g, g ≠ h → t.head g = s.head g ∧ t.output g = s.output g) ∧
    t = { s with
      heads := t.heads
      outputs := t.outputs
      inFlight := s.inFlight - 1
      cal := { s.cal with
        state := u
        last := some ⟨h, o, c.delivered / c.factor, c.delivered, none, none, none⟩ } }

/-- Only head `h` and the head's outputs differ between `s` and `t`, and what `u` lists. -/
def OnlyHead (h : HeadId) (s t u : State) : Prop :=
  (∀ g, g ≠ h → t.head g = s.head g ∧ t.output g = s.output g) ∧
    t = { u with heads := t.heads, outputs := t.outputs }

/-! ### Invariants -/

/-- RQ holds at most 256 records (R121); of two adjacent ones the later's sequence is the earlier's plus one plus
the later's lost before (R125); the counters continue the newest (R120, R122). -/
def QueueLaw (s : State) : Prop :=
  s.reports.records.length ≤ 256 ∧
    s.reports.records.IsChain (fun a b => b.sequence = a.sequence + 1 + b.lostBefore) ∧
    ∀ r, s.reports.records.getLast? = some r → s.reports.sequence = r.sequence + 1 + s.reports.lost

/-- Every correction lies within its bounds (R70), and the edit reservation names a LOADED slot (R76). -/
def CorrectionTableLaw (s : State) : Prop :=
  (∀ h k, -20000000 ≤ s.correction h k ∧ s.correction h k ≤ 20000000) ∧
    ∀ h k, s.reservation = some (h, k) → (s.slot k).recipe.isSome = true

/-- Every meter factor is 0 or in 200..65,535, and an ENABLED or LOCKED_OUT head's is not 0 (R17); the waiting
commands fit the link, so that none carries a wider factor. -/
def MeterFactorLaw (s : State) : Prop :=
  (∀ h, (s.head h).factor = 0 ∨ (200 ≤ (s.head h).factor ∧ (s.head h).factor ≤ 65535)) ∧
    (∀ h, (s.head h).enable ≠ .disabled → (s.head h).factor ≠ 0) ∧
    ∀ c ∈ s.pending, c.wellFormed = true

/-- CS runs exactly while the mode is CLEANING (R162). -/
def CleaningFitsMode (s : State) : Prop :=
  (s.cleaning.phase ≠ .idle ↔ s.mode = .cleaning) ∧ (s.cleaning.result = .running ↔ s.mode = .cleaning) ∧
    (s.cleaning.timer.isSome = true ↔ s.mode = .cleaning) ∧ (s.mode = .cleaning → s.cleaning.plan.isSome = true)

/-- CU is IDLE exactly while the mode is not CALIBRATION; in IDLE its head and target are none, otherwise it has
both, the target in range (R152, R153). -/
def CalibrationFitsMode (s : State) : Prop :=
  (s.cal.state = .idle ↔ s.mode ≠ .calibration) ∧
    (s.cal.state = .idle → s.cal.head = none ∧ s.cal.target = none) ∧
    (s.cal.state ≠ .idle → s.cal.head.isSome = true ∧
      ∃ τ, s.cal.target = some τ ∧ 10000 ≤ τ ∧ τ ≤ 3000000)

/-- While the reset line is released, MC and VD have recorded the levels of the live inputs (R111, R140, R144),
and valve power is present in every mode other than HALTED (R140). -/
def PowerFitsMode (s : State) : Prop :=
  s.pins.resetHeld = false →
    s.valvePower = s.pins.valvePower ∧ s.productReady = s.pins.productReady ∧
      s.drive = (if s.pins.valvePower then .powered else .unpowered) ∧ (s.valvePower = true ∨ s.mode = .halted)

/-- The service units and the valve power fit the mode. -/
def ServiceAndPowerLaw (s : State) : Prop := CleaningFitsMode s ∧ CalibrationFitsMode s ∧ PowerFitsMode s

/-- The encoder count lies below CPR and the other counts in their ranges (R4, R7, R12); the tracker is REFERENCED
in PRODUCTION and DRAINING (R9); the geometry record is one that was accepted, or the reset one without heads
(R1, R16). -/
def TrackerLaw (s : State) : Prop :=
  s.tracker.count < s.tracker.geometry.cpr ∧ s.tracker.lead ≤ 65535 ∧
    (s.tracker.slips ≤ 1 ∨ (s.tracker.slips = 2 ∧ s.tracker.status = .faulted)) ∧
    (s.fillingMode = true → s.tracker.status = .referenced) ∧
    (s.tracker.geometry = Geometry.powerOn ∨ geometryAcceptable s.tracker.geometry = true)

/-- A stored recipe's fields lie in their ranges (R85, R86, R88). -/
def recipeStored (r : Recipe) : Prop :=
  10000 ≤ r.target ∧ r.target ≤ 3000000 ∧ r.softStart ≤ r.target / 2 ∧ r.topUpBand ≤ r.target - r.softStart ∧
    r.toleranceBelow ≤ 50000 ∧ r.toleranceAbove ≤ 50000 ∧ 10 ≤ r.contactWindow ∧ r.contactWindow ≤ 2000 ∧
    r.pressurizeDwell ≤ 2000 ∧ 5 ≤ r.settleTime ∧ r.settleTime ≤ 1000 ∧ r.sniftDwell ≤ 2000 ∧
    5 ≤ r.stuckWindow ∧ r.stuckWindow ≤ 1000 ∧ 1 ≤ r.pulseCeiling ∧ r.pulseCeiling ≤ 1023 ∧ r.smoothing ≤ 4 ∧
    r.gain ≤ 16 ∧ r.outlierLimit ≤ 20000

/-- What is stored lies in its range: recipes (R85), near-full threshold (R127), profile lags (R104), fault
counts (R17). -/
def StoredSettingsLaw (s : State) : Prop :=
  (∀ k r, (s.slot k).recipe = some r → recipeStored r) ∧ s.reports.threshold ∈ [192, 208, 224, 240] ∧
    (∀ p : ProfileId, (s.profiles[p]).openLag ≤ 32767 ∧ (s.profiles[p]).closingLag ≤ 32767) ∧
    ∀ h, (s.head h).faults ≤ 15

/-- No head has SNIFT open with WIDE or NARROW, nor GAS with WIDE or NARROW (R107); while the reset line is
released each terminal is ENERGIZED when the strings are powered and exactly one of OPEN and INVERTED holds
(R109, R111). -/
def ValveLaw (s : State) : Prop :=
  (∀ h, ((s.output h).opened.snift = true ∨ (s.output h).opened.gas = true) →
      (s.output h).opened.wide = false ∧ (s.output h).opened.narrow = false) ∧
    (s.pins.resetHeld = false → ∀ h,
      let o := (s.output h).opened
      let p := s.profiles[(s.head h).profile]
      let on := decide (s.drive = .powered)
      (s.output h).terminals =
        ⟨on && (o.gas ^^ decide (p.gas = .inverted)), on && (o.wide ^^ decide (p.wide = .inverted)),
          on && (o.narrow ^^ decide (p.narrow = .inverted)), on && (o.snift ^^ decide (p.snift = .inverted))⟩)

/-- The counts agree with the heads: in flight (R42), each slot's bindings (R92), pending changeovers (R93); no
head's pending slot is its active one (R93); a bound slot is LOADED (R92). -/
def CountsLaw (s : State) : Prop :=
  s.inFlight = allHeads.countP (fun h => (s.head h).cycle.inFlight) ∧
    (∀ k, (s.slot k).bindings =
      allHeads.countP (fun h => decide ((s.head h).active = some k) || decide ((s.head h).pendingSlot = some k))) ∧
    s.pendingChangeovers = allHeads.countP (fun h => (s.head h).pendingSlot.isSome) ∧
    (∀ h k, (s.head h).pendingSlot = some k → (s.head h).active ≠ some k) ∧
    ∀ k, 0 < (s.slot k).bindings → (s.slot k).recipe.isSome = true

/-- The timer a head may have in its state (R22). -/
def Head.timerFits (x : Head) (vent : Bool) : Prop :=
  match x.cycle with
  | .waitBottle => x.timer.map Timer.kind = some .contactWindow ∧ vent = false
  | .pressurize => x.timer.map Timer.kind = some .pressurizeDwell ∧ vent = false
  | .closing => x.timer.map Timer.kind = some .settle ∧ vent = false
  | .snift => x.timer.map Timer.kind = some .sniftDwell ∧ vent = false
  | .aborted => (x.timer.map Timer.kind = some .vent ∧ vent = true) ∨ (x.timer = none ∧ vent = false)
  | .idle => x.timer = none ∧ vent = false
  | .skip => x.timer = none ∧ vent = false
  | .fillSoft => x.timer = none ∧ vent = false
  | .fillFast => x.timer = none ∧ vent = false
  | .fillTopUp => x.timer = none ∧ vent = false
  | .done => x.timer = none ∧ vent = false
  | .cleanOpen => x.timer = none ∧ vent = false
  | .cleanPause => x.timer = none ∧ vent = false

/-- The states a head may be in, by mode (R135). -/
def headFits (s : State) (h : HeadId) : Prop :=
  match s.mode with
  | .standby => (s.head h).cycle = .idle
  | .halted => (s.head h).cycle = .idle
  | .cleaning =>
    (s.head h).cycle = .idle ∨
      (s.cleaning.driven[h] = true ∧
        (s.head h).cycle = if s.cleaning.phase = .openPhase then .cleanOpen else .cleanPause)
  | .calibration =>
    (s.head h).cycle = .idle ∨
      (s.cal.head = some h ∧ s.cal.state = .dosing ∧ (s.head h).cycle.holdsFill = true)
  | .production => (s.head h).cycle ≠ .cleanOpen ∧ (s.head h).cycle ≠ .cleanPause
  | .draining => (s.head h).cycle ≠ .cleanOpen ∧ (s.head h).cycle ≠ .cleanPause

/-- Every head is in a state its mode allows (R135), holds a fill context exactly in the states of a fill (R22),
has the timer of its state (R22) and the open set of its state (R107). -/
def HeadsLaw (s : State) : Prop :=
  CleaningFitsMode s ∧ CalibrationFitsMode s ∧
    ∀ h, headFits s h ∧ (s.head h).fill.isSome = (s.head h).cycle.holdsFill ∧
      (s.head h).timerFits (s.output h).vent ∧
      (s.output h).opened = openSet (s.head h).cycle (s.output h).vent (s.profiles[(s.head h).profile]).fastDrive

/-- A fill runs on its head's active slot, which is LOADED (R99), with its head's meter factor (R51); its delivered
volume and its flow estimate lie in their ranges (R55, R56). -/
def fillFits (s : State) (h : HeadId) : Prop :=
  ∀ c, (s.head h).fill = some c →
    (s.head h).active = some c.slot ∧ c.factor = (s.head h).factor ∧ c.delivered ≤ 4294967295 ∧
      ∃ r, (s.slot c.slot).recipe = some r ∧ c.flow ≤ r.pulseCeiling * c.factor

/-- The laws of the fills in flight, with the laws they rest on; and an entry whose slot is EMPTY holds 0
(R70). -/
def FillsLaw (s : State) : Prop :=
  HeadsLaw s ∧ CountsLaw s ∧ CorrectionTableLaw s ∧ (∀ h, fillFits s h) ∧
    ∀ h k, (s.slot k).recipe = none → s.correction h k = 0

end Sys2Proof.Machine
end

