-- ==== Sys2Proof/Certificates/Slice0/Obligations.lean ====
section
/-! DEFINITION. The statements for the provers. Each docstring says the rule it formalises. -/

open Sys2Proof Sys2Proof.Machine

/-! ### The queue of commands and the link -/

/-- A step takes the command at the front of the queue and is exec of it on the state with the queue's rest; on
an empty queue the block idles (the model's choice, Log 1). -/
def Obligations.StepRunsTheFrontCommand : Prop :=
  (∀ (c : Instr) (s : State) (rest : List Instr),
      s.pending = c :: rest → step s = exec c { s with pending := rest }) ∧
    ∀ s : State, s.pending = [] → step s = .next s

/-- Every command has a next state, and none touches the queue of the commands that wait behind it (Log 1). -/
def Obligations.CommandsLeaveTheQueue : Prop :=
  ∀ (c : Instr) (s : State), ∃ t : State, exec c s = .next t ∧ t.pending = s.pending

/-- When LI cannot take an addressed request nothing of it is executed. What becomes of a request row then is the
model's reading, DEDUCED from the rules of the bytes and of the reset: the reset line held leaves all state (Log 7,
from R150), a reply being sent leaves all state (Log 4, from R172), and at a node without an address the frame is
discarded with LI in HUNT (Log 4, from R171 and R174). -/
def Obligations.RequestsTurnedAway : Prop :=
  ∀ (i : Instr) (s : State), isRequest i = true →
    (s.running = false → exec i s = .next s) ∧
      (s.running = true → s.link.rx = .transmitting → exec i s = .next s) ∧
      (s.running = true → s.link.rx ≠ .transmitting → s.link.node = 0 → exec i s = .next s.hunting)

/-- Reading back the code and payload that spell a well-formed request gives that request, for every request of
R178 and every operand its field admits. The HALT row's broadcast form has the same code and payload (R174). -/
def Obligations.RequestEncodingRoundTrip : Prop :=
  ∀ (i : Instr) (code : Nat) (payload : List Byte), i.wellFormed = true → i ≠ .halt true →
    encodeRequest i = some (code, payload) →
      decodeRequest code payload = .ok i ∧ requestLength code = some payload.length

/-- A request's frame, byte by byte into an LI in HUNT, does exactly what the request's row does (R170, R172 to
R175); so does the frame of the broadcast HALT (R174). That a row stands for the last byte of a complete valid frame
is the model's choice (Log 3). -/
def Obligations.FramesRunTheirRequests : Prop :=
  (∀ (i : Instr) (s : State) (code : Nat) (payload : List Byte), i.wellFormed = true → i ≠ .halt true →
      encodeRequest i = some (code, payload) → s.running = true → s.link.rx = .hunt → s.link.node ≠ 0 →
        deliver (requestFrame s.link.node.val code payload) s = exec i s) ∧
    ∀ s : State, s.running = true → s.link.rx = .hunt →
      deliver (requestFrame 0 0x14 []) s = exec (.halt true) s

/-- An unrecognised code is answered UNKNOWN_REQUEST, and a recognised one with another payload length than R178
gives is answered BAD_LENGTH; neither changes any state but LI's own (R175). -/
def Obligations.UnknownAndMisSizedRequestsAreAnswered : Prop :=
  (∀ (code : Nat) (s : State), s.listening = true →
      exec (.unknownRequest code) s = .next (s.answered code .unknownRequest [])) ∧
    ∀ (code : Nat) (payload : List Byte) (s : State), code < 256 → payload.length ≤ 400 → s.listening = true →
      s.link.rx = .hunt →
        (requestLength code = none →
            deliver (requestFrame s.link.node.val code payload) s = .next (s.answered code .unknownRequest [])) ∧
          ∀ n, requestLength code = some n → payload.length ≠ n →
            deliver (requestFrame s.link.node.val code payload) s = .next (s.answered code .badLength [])

/-- What LI does with a byte, by its receive state, and with the expiry of the gap timer (R172): in HUNT only 0xC3
starts a frame; in RECEIVING a byte is appended and the timer runs on, a length above 400 gives the frame up;
while TRANSMITTING a byte is discarded. A byte that completes a frame whose check fails (R173), that is addressed
to another node, is another node's reply, or is a broadcast other than HALT (R174) leaves LI in HUNT and nothing
else changed. The frames that are taken: FramesRunTheirRequests and UnknownAndMisSizedRequestsAreAnswered. -/
def Obligations.BytesByReceiveState : Prop :=
  ∀ (b : Byte) (s : State), s.running = true →
    (s.link.rx = .hunt → b = 0xC3#8 → exec (.byteArrival b) s =
        .next { s with link := { s.link with rx := .receiving, buffer := [b], gapRunning := true } }) ∧
      (s.link.rx = .hunt → b ≠ 0xC3#8 → exec (.byteArrival b) s = .next s) ∧
      (s.link.rx = .transmitting → exec (.byteArrival b) s = .next s) ∧
      (s.link.rx = .receiving →
        let buffer := s.link.buffer ++ [b]
        let request := decide ((buffer.getD 1 0).toNat < 128)
        let lengthAt := if request then 3 else 9
        let overhead := if request then 7 else 13
        let length := (buffer.getD lengthAt 0).toNat + 256 * (buffer.getD (lengthAt + 1) 0).toNat
        (buffer.length < lengthAt + 2 ∨ (length ≤ 400 ∧ buffer.length < overhead + length) →
            exec (.byteArrival b) s =
              .next { s with link := { s.link with buffer := buffer, gapRunning := true } }) ∧
          (lengthAt + 2 ≤ buffer.length → 400 < length → exec (.byteArrival b) s = .next s.hunting) ∧
          (lengthAt + 2 ≤ buffer.length → length ≤ 400 → overhead + length ≤ buffer.length →
            let address := (buffer.getD 1 0).toNat
            let given := 256 * (buffer.getD (buffer.length - 2) 0).toNat +
              (buffer.getD (buffer.length - 1) 0).toNat
            (frameCheck ((buffer.drop 1).take (buffer.length - 3)) ≠ given ∨
                (address ≠ 0 ∧ address ≠ s.link.node.val) ∨
                (address = 0 ∧ ¬((buffer.getD 2 0).toNat = 0x14 ∧ length = 0))) →
              exec (.byteArrival b) s = .next s.hunting)) ∧
      (s.link.rx = .receiving → exec .gapTimerExpiry s = .next s.hunting)

/-- A reply with a status other than OK goes with no change of any state but LI's own; only WRITE CORRECTION
answered NO_RESERVATION removes a reservation; the configuration requests refused for their mode reply WRONG_MODE;
the status codes are the table's (R179). -/
def Obligations.RefusedRequestsChangeNothing : Prop :=
  (∀ (i : Instr) (s t : State) (r : Reply), isRequest i = true → s.listening = true → exec i s = .next t →
      t.link.tx = some r → r.status ≠ .ok →
        ((∀ h k v, i ≠ .writeCorrection h k v) → t = { s with link := t.link }) ∧
          t = { s with link := t.link, reservation := t.reservation } ∧
          (t.reservation = s.reservation ∨ (r.status = .noReservation ∧ t.reservation = none))) ∧
    (∀ (i : Instr) (s : State), s.listening = true → s.idleMode = false →
      ((∃ g, i = .setGeometry g) ∨ (∃ p f, i = .setValveProfile p f) ∨ (∃ h p f, i = .setHead h p f) ∨
          ∃ k v, i = .restoreCorrections k v) →
        ∃ code, exec i s = .next (s.answered code .wrongMode [])) ∧
    [Status.ok, .unknownRequest, .badLength, .badField, .wrongMode, .geometryUnset, .notReferenced,
        .noValvePower, .nothingEnabled, .recipeMissing, .slotEmpty, .slotBound, .headUncalibrated,
        .noReservation, .calState, .calImplausible].map Status.code = List.range 16

/-- The five bytes of the status summary (R177): mode, the little-endian word of conditions (R145), latched alarms
and pending changeovers, and the report count. -/
def Obligations.SummaryHoldsModeConditionsAndAlarms : Prop :=
  ∀ s : State,
    let w := fieldAt s.summary 1 2
    s.summary.length = 5 ∧
      fieldAt s.summary 0 1 = (match s.mode with
        | .standby => 0
        | .production => 1
        | .draining => 2
        | .halted => 3
        | .cleaning => 4
        | .calibration => 5) ∧
      w.testBit 0 = decide (s.tracker.status = .referenced) ∧ w.testBit 1 = s.valvePower ∧
      w.testBit 2 = s.productReady ∧
      w.testBit 3 = decide (s.reports.threshold ≤ s.reports.records.length) ∧
      w.testBit 4 = decide (0 < s.pendingChangeovers) ∧ w.testBit 5 = s.alarms.indexSlip ∧
      w.testBit 6 = s.alarms.encoderFault ∧ w.testBit 7 = s.alarms.valvePowerLost ∧
      w.testBit 8 = s.alarms.reportOverflow ∧ w.testBit 9 = s.alarms.headLockout ∧
      w / 1024 = (if 63 ≤ s.pendingChangeovers then 63 else s.pendingChangeovers) ∧
      (s.reports.records.length ≤ 256 → fieldAt s.summary 3 2 = s.reports.records.length)

/-- RESTART is answered OK from the state as it stands, and its reset waits for the reply (R149). When the last
byte of a reply has been sent LI goes to HUNT (R176); after a RESTART's reply every block takes its RESTART values
(R16, R45, R69, R83, R102, R116, R134, R149, R161, R169, R171). -/
def Obligations.RestartTakesEffectAtItsReply : Prop :=
  (∀ s : State, s.listening = true →
      exec .restart s =
        .next (State.answered { s with link := { s.link with restartPending := true } } 0x1F .ok [])) ∧
    (∀ s : State, s.running = true → s.link.rx = .transmitting → s.link.restartPending = false →
      exec .replySent s = .next { s.hunting with link := { s.hunting.link with tx := none } }) ∧
    ∀ s : State, s.running = true → s.link.rx = .transmitting → s.link.restartPending = true →
      ∃ t : State, exec .replySent s = .next t ∧
        t.tracker = ⟨s.tracker.geometry, 0, 0, 0, .unreferenced⟩ ∧
        (∀ h, t.head h = { (s.head h).atRest with pendingSlot := none }) ∧ t.inFlight = 0 ∧ t.clock = s.clock ∧
        (∀ h, t.lane h = ⟨(s.lane h).counter, (s.lane h).counter⟩) ∧ t.corrections = s.corrections ∧
        t.reservation = none ∧
        (∀ k, (t.slot k).recipe = (s.slot k).recipe ∧
          (t.slot k).bindings = allHeads.countP fun h => decide ((s.head h).active = some k)) ∧
        t.pendingChangeovers = 0 ∧ t.profiles = s.profiles ∧
        (∀ h, t.output h =
          ⟨Outputs.allOff, false, terminalsOf s.drive s.profiles[(s.head h).profile] Outputs.allOff⟩) ∧
        t.drive = s.drive ∧ t.reports = ⟨[], 0, 0, s.reports.threshold⟩ ∧
        t.mode = (if s.pins.valvePower then .standby else .halted) ∧
        t.alarms = ⟨false, false, !s.pins.valvePower, false, false⟩ ∧ t.valvePower = s.pins.valvePower ∧
        t.productReady = s.pins.productReady ∧ t.cal = ⟨none, none, .idle, none⟩ ∧
        t.cleaning = ⟨none, .idle, 0, 0, Vector.replicate 64 false, none, Vector.replicate 64 0,
          Vector.replicate 64 false, .none⟩ ∧
        t.link = ⟨s.link.node, .hunt, [], false, none, false⟩ ∧ t.pins = s.pins

/-- READ STATUS changes nothing and answers the 41 bytes of the status record (R180), with the codes of R178.
READ GEOMETRY changes nothing and answers the geometry record, the tracker state, the encoder count, its
carousel angle, the lead count and the slip count (R3, R4, R178). -/
def Obligations.ReadStatusAndReadGeometry : Prop :=
  (∀ s : State, s.listening = true →
     ∃ p : List Byte, exec .readStatus s = .next (s.answered 0x01 .ok p) ∧ p.length = 41 ∧
       fieldAt p 0 1 = fieldAt s.summary 0 1 ∧ fieldAt p 1 2 = fieldAt s.summary 1 2 ∧
       (s.inFlight ≤ 64 → fieldAt p 3 1 = s.inFlight) ∧
       (s.pendingChangeovers ≤ 64 → fieldAt p 4 1 = s.pendingChangeovers) ∧
       (∀ h : HeadId, (fieldAt p 5 8).testBit h.val = decide ((s.head h).enable = .lockedOut)) ∧
       fieldAt p 13 1 = (match s.tracker.status with
         | .unreferenced => 0
         | .referenced => 1
         | .faulted => 2) ∧ fieldAt p 14 4 = s.reports.lost.toNat ∧
       fieldAt p 18 4 = s.reports.sequence.toNat ∧
       fieldAt p 22 1 = (match s.cal.state with
         | .idle => 0
         | .armed => 1
         | .dosing => 2
         | .awaitActual => 3) ∧
       (s.cal.last = none → fieldAt p 23 1 = 255 ∧ fieldAt p 24 16 = 0 ∧ fieldAt p 40 1 = 0) ∧
       ∀ r, s.cal.last = some r →
         fieldAt p 23 1 = r.head.val ∧ fieldAt p 24 1 = (match r.outcome with
             | .complete => 1
             | .overrange => 2
             | .tooSmall => 3
             | .abortedContact => 4
             | .abortedStuck => 5
             | .abandoned => 6
             | .factorWritten => 7) ∧
           (r.pulses < 2 ^ 32 → fieldAt p 25 4 = r.pulses) ∧
           (r.measured < 2 ^ 32 → fieldAt p 29 4 = (r.measured + 500) / 1000) ∧
           (r.actual.getD 0 < 2 ^ 32 → fieldAt p 33 4 = (r.actual.getD 0 + 500) / 1000) ∧
           (r.oldFactor.getD 0 < 65536 → fieldAt p 37 2 = r.oldFactor.getD 0) ∧
           (r.newFactor.getD 0 < 65536 → fieldAt p 39 2 = r.newFactor.getD 0)) ∧
    ∀ s : State, s.listening = true →
      ∃ p : List Byte, exec .readGeometry s = .next (s.answered 0x03 .ok p) ∧ p.length = 23 ∧
        (s.tracker.geometry.wellFormed = true → Geometry.decode p = s.tracker.geometry) ∧
        fieldAt p 15 1 = (match s.tracker.status with
          | .unreferenced => 0
          | .referenced => 1
          | .faulted => 2) ∧
        (s.tracker.count < s.tracker.geometry.cpr → s.tracker.geometry.cpr ≤ 65535 →
          fieldAt p 16 2 = s.tracker.count ∧
            fieldAt p 18 2 = s.tracker.count * 65536 / s.tracker.geometry.cpr) ∧
        (s.tracker.lead ≤ 65535 → fieldAt p 20 2 = s.tracker.lead) ∧
        (s.tracker.slips ≤ 255 → fieldAt p 22 1 = s.tracker.slips)

/-! ### Angle Tracker -/

/-- SET GEOMETRY: WRONG_MODE outside STANDBY and HALTED, BAD_FIELD for a record out of range or one that leaves an
ENABLED or LOCKED_OUT head at or above N; accepted, it replaces the record, takes a REFERENCED tracker to
UNREFERENCED and sets the three counts to 0 (R2). -/
def Obligations.SetGeometryReplacesTheRecord : Prop :=
  ∀ (g : Geometry) (s : State), s.listening = true →
    let fits := geometryAcceptable g = true ∧ ∀ h, (s.head h).enable ≠ .disabled → h.val < g.headCount
    (s.idleMode = false → exec (.setGeometry g) s = .next (s.answered 0x02 .wrongMode [])) ∧
      (s.idleMode = true → ¬fits → exec (.setGeometry g) s = .next (s.answered 0x02 .badField [])) ∧
      (s.idleMode = true → fits → exec (.setGeometry g) s =
        .next (State.answered
          { s with
            tracker := ⟨g, 0, 0, 0, if s.tracker.status = .faulted then .faulted else .unreferenced⟩ }
          0x02 .ok []))

/-- A forward step advances the count modulo CPR; it takes 1 from a lead count above 0, and raises no arrivals
then nor outside PRODUCTION and DRAINING; a FAULTED tracker ignores it (R6, R9).
A backward step takes the count back modulo CPR and adds 1 to the lead count, held at 65,535; in PRODUCTION and
DRAINING a lead count above the reverse tolerance faults the tracker, and the D64 halts (R7, R14, R143). A FAULTED
tracker ignores the step. An accepted START PRODUCTION clears the lead count: StartProductionAndClearHalt. -/
def Obligations.EncoderStepsMoveTheCounts : Prop :=
  (∀ s : State, s.running = true →
     (s.tracker.status = .faulted → exec .encoderForwardStep s = .next s) ∧
       (s.tracker.status ≠ .faulted → (0 < s.tracker.lead ∨ s.fillingMode = false) →
         exec .encoderForwardStep s =
           .next { s with
             tracker := { s.tracker with
               count := (s.tracker.count + 1) % s.tracker.geometry.cpr
               lead := s.tracker.lead - 1 } }) ∧
       (s.tracker.status ≠ .faulted → s.tracker.lead = 0 → s.fillingMode = true →
         ∃ t : State, exec .encoderForwardStep s = .next t ∧
           t.tracker = { s.tracker with count := (s.tracker.count + 1) % s.tracker.geometry.cpr })) ∧
    ∀ s : State, s.running = true →
      let count := if s.tracker.count = 0 then s.tracker.geometry.cpr - 1 else s.tracker.count - 1
      let lead := if s.tracker.lead < 65535 then s.tracker.lead + 1 else 65535
      (s.tracker.status = .faulted → exec .encoderBackwardStep s = .next s) ∧
        (s.tracker.status ≠ .faulted → s.tracker.count < s.tracker.geometry.cpr →
          ((s.fillingMode = false ∨ lead ≤ s.tracker.geometry.reverseTolerance) →
              exec .encoderBackwardStep s =
                .next { s with tracker := { s.tracker with count := count, lead := lead } }) ∧
            (s.fillingMode = true → s.tracker.geometry.reverseTolerance < lead →
              ∃ t : State, exec .encoderBackwardStep s = .next t ∧ HeadsAtRest s t ∧
                let filed := allHeads.filterMap (haltContent s)
                t = { s with
                  tracker := { s.tracker with count := count, lead := lead, status := .faulted }
                  heads := t.heads
                  outputs := t.outputs
                  inFlight := 0
                  reports := s.reports.filedAll filed
                  alarms := { s.alarmsFiled filed.length with encoderFault := true }
                  mode := .halted }))

/-- The arrivals of a forward crossing in PRODUCTION and DRAINING, as each head takes them (R8, R24 to R26, R30, R33,
R37, R38): a head at which none is raised is untouched; an infeed at a head in IDLE or DONE begins a pass with a
fill, a wait for the bottle or a SKIP, and in DRAINING always a SKIP; a latest-close arrival closes a fill stage
late; a discharge ends an unfinished fill as SHORT_SNIFT and takes the pass to IDLE; where one step raises both,
the discharge comes first and the infeed begins the next pass. The heads of one crossing do not disturb one
another, unless the last heads in flight are discharged in DRAINING: the mode is then STANDBY and every head in
IDLE (R43, R138). Two clauses lean on the model's reading: that STANDBY and IDLE stand although the same crossing
raises further arrivals, which are then not taken (DEDUCED, Log 12), and that a crossing in DRAINING advances the
model's own counter of free choices (DESIGN CHOICE, Log 11). Left out: a latest-close arrival beside another boundary
at one head in one step, which no geometry that SET GEOMETRY accepts gives. -/
def Obligations.CrossingBringsEachHeadItsArrivals : Prop :=
  ∀ (s : State) (h : HeadId), s.running = true → s.fillingMode = true → s.tracker.status ≠ .faulted →
    s.tracker.lead = 0 → (s.mode = .draining → s.flightCounted) →
      ∃ t : State, exec .encoderForwardStep s = .next t ∧
        let x := s.head h
        let at_ := fun b => raisesAt s.tracker.geometry s.tracker.count b h
        let moves := x.cycle ≠ .idle ∧ x.cycle ≠ .cleanOpen ∧ x.cycle ≠ .cleanPause
        let d := if at_ .discharge = true ∧ moves then x.atRest else x
        let y := if d.cycle = .done then d.atRest else d
        let begins := d.cycle = .idle ∨ d.cycle = .done
        let skipped := s.mode = .draining ∨ x.enable ≠ .enabled ∨ s.productReady = false ∨
          (x.active = none ∧ x.pendingSlot = none)
        let ends := crossingEndsDraining s
        let unfilled := fun r : Report => r.head = h ∧ r.verdict = .unfilled ∧ r.slot = x.active ∧
          r.flags = FillFlags.clear ∧ r.finalVolume = 0 ∧ r.duration = 0
        let shortSnift := fun (r : Report) (c : FillContext) => r.head = h ∧ r.verdict = .shortSnift ∧
          r.slot = some c.slot ∧ r.flags = c.flags ∧ r.finalVolume = (c.delivered + 500) / 1000 ∧
          r.duration = c.duration
        t = { s with
          tracker := { s.tracker with count := (s.tracker.count + 1) % s.tracker.geometry.cpr }
          heads := t.heads
          outputs := t.outputs
          slots := t.slots
          pendingChangeovers := t.pendingChangeovers
          inFlight := t.inFlight
          reports := t.reports
          mode := t.mode
          alarms := { s.alarms with reportOverflow := t.alarms.reportOverflow }
          choices := if s.mode = .draining then s.choices + 1 else s.choices } ∧
          (∀ k, (t.slot k).recipe = (s.slot k).recipe) ∧
          (ends → t.mode = .standby ∧ HeadsAtRest s t ∧
            (s.reports.records.length + 128 ≤ 256 →
              (x.cycle = .skip → x.contactSeen = true → ∃ r ∈ t.reports.records, unfilled r) ∧
                (x.cycle.holdsFill = true → at_ .latestClose = false → ∀ c, x.fill = some c →
                  ∃ r ∈ t.reports.records, shortSnift r c))) ∧
          (¬ends →
            t.mode = s.mode ∧
              (at_ .infeed = false → at_ .latestClose = false → at_ .discharge = false →
                t.head h = x ∧ t.output h = s.output h) ∧
              (at_ .infeed = true → at_ .latestClose = false →
                (at_ .discharge = false ∨ geometryAcceptable s.tracker.geometry = true) →
                (¬begins → t.head h = d) ∧
                  (begins → skipped →
                    t.head h = { y with cycle := .skip, contactSeen := s.contact h, timer := none }) ∧
                  (begins → ¬skipped → ∀ k, (x.pendingSlot = some k ∨ (x.pendingSlot = none ∧ x.active = some k)) →
                    (s.contact h = false → t.head h = { y with
                        cycle := .waitBottle
                        timer := some ⟨.contactWindow, (s.recipe k).contactWindow⟩ }) ∧
                      (s.contact h = true → t.head h = { y with
                        active := some k
                        pendingSlot := none
                        cycle := if (s.recipe k).pressurizeDwell = 0 then .fillSoft else .pressurize
                        timer := if (s.recipe k).pressurizeDwell = 0 then none
                          else some ⟨.pressurizeDwell, (s.recipe k).pressurizeDwell⟩
                        fill := some
                          (latchedContext s h k ((s.recipe k).target * 1000) x.pendingSlot.isSome) }))) ∧
              (at_ .infeed = false → at_ .latestClose = true → at_ .discharge = false →
                (x.cycle.isFillStage = false → t.head h = x) ∧
                  (x.cycle.isFillStage = true → ∀ c, x.fill = some c →
                    t.head h = { x with
                      cycle := .closing
                      timer := some ⟨.settle, (s.recipe c.slot).settleTime⟩
                      fill := some { c with
                        duration := min 65535 (s.clock - c.startTime).toNat
                        flags := { c.flags with late := true } } } ∧
                      (t.output h).opened = Outputs.allOff)) ∧
              (at_ .infeed = false → at_ .latestClose = false → at_ .discharge = true →
                t.head h = d ∧ (moves → (t.output h).opened = Outputs.allOff)) ∧
              (at_ .latestClose = false → at_ .discharge = true →
                (at_ .infeed = false ∨ geometryAcceptable s.tracker.geometry = true) →
                s.reports.records.length + 64 ≤ 256 →
                (x.cycle = .skip → x.contactSeen = true → ∃ r ∈ t.reports.records, unfilled r) ∧
                  (x.cycle.holdsFill = true → ∀ c, x.fill = some c → ∃ r ∈ t.reports.records, shortSnift r c)))

/-- A forward step with the index mark: it references an UNREFERENCED tracker with the counts at 0 (R10); on a
REFERENCED one the count after the step is exact or within tolerance and is set to 0 with the slip count (R11), or
it is a slip, which latches INDEX_SLIP and faults the tracker at the second in a row (R12, R14, R143); a FAULTED one
ignores it. In PRODUCTION and DRAINING the forward step is taken first, with its arrivals (R6), and then the mark; a
second slip there halts the heads with their reports in ascending head order (R44, R124, R143). -/
def Obligations.IndexMarkReferencesAndChecks : Prop :=
  ∀ s : State, s.running = true →
    let g := s.tracker.geometry
    let c := (s.tracker.count + 1) % g.cpr
    let good := c ≤ g.indexTolerance ∨ g.cpr ≤ c + g.indexTolerance
    let lead := s.tracker.lead - 1
    (s.tracker.status = .faulted → exec .indexMarkStep s = .next s) ∧
      (s.fillingMode = false →
        (s.tracker.status = .unreferenced →
            exec .indexMarkStep s = .next { s with tracker := ⟨g, 0, 0, 0, .referenced⟩ }) ∧
          (s.tracker.status = .referenced → good →
            exec .indexMarkStep s = .next { s with tracker := ⟨g, 0, lead, 0, .referenced⟩ }) ∧
          (s.tracker.status = .referenced → ¬good → s.tracker.slips = 0 →
            exec .indexMarkStep s = .next { s with
              tracker := ⟨g, 0, lead, 1, .referenced⟩
              alarms := { s.alarms with indexSlip := true } }) ∧
          (s.tracker.status = .referenced → ¬good → s.tracker.slips = 1 →
            exec .indexMarkStep s = .next { s with
              tracker := ⟨g, 0, lead, 2, .faulted⟩
              alarms := { s.alarms with indexSlip := true, encoderFault := true }
              mode := if s.mode = .standby then .halted else s.mode })) ∧
      (s.fillingMode = true → s.tracker.status = .referenced →
        ∃ u : State, exec .encoderForwardStep s = .next u ∧
          (good → exec .indexMarkStep s = .next { u with tracker := ⟨g, 0, lead, 0, .referenced⟩ }) ∧
          (¬good → s.tracker.slips = 0 → exec .indexMarkStep s = .next { u with
            tracker := ⟨g, 0, lead, 1, .referenced⟩
            alarms := { u.alarms with indexSlip := true } }) ∧
          (¬good → s.tracker.slips = 1 → ∃ t : State, exec .indexMarkStep s = .next t ∧ HeadsAtRest u t ∧
            let filed := allHeads.filterMap (haltContent u)
            t = { u with
              tracker := ⟨g, 0, lead, 2, .faulted⟩
              heads := t.heads
              outputs := t.outputs
              inFlight := 0
              reports := u.reports.filedAll filed
              alarms := { u.alarmsFiled filed.length with indexSlip := true, encoderFault := true }
              mode := .halted }))

/-- A quadrature error leaves the counts and faults the tracker, with ENCODER_FAULT latched: STANDBY becomes HALTED,
PRODUCTION and DRAINING are halted with their reports, HALTED, CLEANING and CALIBRATION are held; in FAULTED it is
ignored (R13, R14, R143). -/
def Obligations.QuadratureErrorFaultsByMode : Prop :=
  ∀ s : State, s.running = true →
    let tracker := { s.tracker with status := .faulted }
    let alarms := { s.alarms with encoderFault := true }
    (s.tracker.status = .faulted → exec .quadratureError s = .next s) ∧
      (s.tracker.status ≠ .faulted → s.mode = .standby →
        exec .quadratureError s = .next { s with tracker := tracker, alarms := alarms, mode := .halted }) ∧
      (s.tracker.status ≠ .faulted → (s.mode = .halted ∨ s.mode = .cleaning ∨ s.mode = .calibration) →
        exec .quadratureError s = .next { s with tracker := tracker, alarms := alarms }) ∧
      (s.tracker.status ≠ .faulted → s.fillingMode = true →
        ∃ t : State, exec .quadratureError s = .next t ∧ HeadsAtRest s t ∧
          let filed := allHeads.filterMap (haltContent s)
          t = { s with
            tracker := tracker
            heads := t.heads
            outputs := t.outputs
            inFlight := 0
            reports := s.reports.filedAll filed
            alarms := { s.alarmsFiled filed.length with encoderFault := true }
            mode := .halted })

/-! ### Head Sequencer -/

/-- SET HEAD: WRONG_MODE outside STANDBY and HALTED, BAD_FIELD for a head, profile or factor it refuses; accepted,
it writes profile and factor into the head's static part and leaves the rest of every head (R18), and VD derives
that head's terminals (R109). -/
def Obligations.SetHeadWritesProfileAndFactor : Prop :=
  ∀ (head profile factor : Nat) (s : State), s.listening = true →
    let op := exec (.setHead head profile factor) s
    (s.idleMode = false → op = .next (s.answered 0x06 .wrongMode [])) ∧
      (s.idleMode = true → (63 < head ∨ 7 < profile ∨ (1 ≤ factor ∧ factor ≤ 199)) →
        op = .next (s.answered 0x06 .badField [])) ∧
      ∀ h : HeadId, head = h.val → s.idleMode = true →
        (factor = 0 → (s.head h).enable ≠ .disabled → op = .next (s.answered 0x06 .badField [])) ∧
          ∀ p : ProfileId, profile = p.val → (200 ≤ factor ∨ (factor = 0 ∧ (s.head h).enable = .disabled)) →
            op = .next (State.answered
              { s with
                heads := s.heads.set h { s.head h with profile := p, factor := factor }
                outputs := s.outputs.set h { s.output h with
                  terminals := terminalsOf s.drive s.profiles[p] (s.output h).opened } }
              0x06 .ok [])

/-- ENABLE HEADS checks the head count, then the calibration, then in PRODUCTION and DRAINING the recipes, and the
first that fails decides the reply; accepted, every named head becomes ENABLED with fault count 0 and no other
changes (R19). DISABLE HEADS makes every named head DISABLED and keeps fault counts and slots (R20). -/
def Obligations.EnableAndDisableHeads : Prop :=
  ∀ (mask : HeadMask) (s : State), s.listening = true →
    let named := fun h : HeadId => mask.getLsbD h.val = true
    let beyond := s.tracker.geometry.headCount ≠ 0 ∧ ∃ h, named h ∧ s.tracker.geometry.headCount ≤ h.val
    let uncalibrated := ∃ h, named h ∧ (s.head h).factor = 0
    let missing := s.fillingMode = true ∧ ∃ h, named h ∧ (s.head h).active = none ∧ (s.head h).pendingSlot = none
    (beyond → exec (.enableHeads mask) s = .next (s.answered 0x08 .badField [])) ∧
      (¬beyond → uncalibrated → exec (.enableHeads mask) s = .next (s.answered 0x08 .headUncalibrated [])) ∧
      (¬beyond → ¬uncalibrated → missing →
        exec (.enableHeads mask) s = .next (s.answered 0x08 .recipeMissing [])) ∧
      (¬beyond → ¬uncalibrated → ¬missing →
        exec (.enableHeads mask) s =
          .next (State.answered
            { s with
              heads := Vector.ofFn fun h : HeadId =>
                if mask.getLsbD h.val then { s.head h with enable := .enabled, faults := 0 } else s.head h }
            0x08 .ok [])) ∧
      exec (.disableHeads mask) s =
        .next (State.answered
          { s with
            heads := Vector.ofFn fun h : HeadId =>
              if mask.getLsbD h.val then { s.head h with enable := .disabled } else s.head h }
          0x09 .ok [])

/-- READ HEAD refuses a head above 63, changes nothing, and answers the 22 bytes of the head record: the static part,
the cycle state, the contact level, contact seen, and the fill context if one is present, with the codes of R178
(R21, R181). -/
def Obligations.ReadHeadAnswersTheHeadRecord : Prop :=
  ∀ (head : Nat) (s : State), s.listening = true →
    (63 < head → exec (.readHead head) s = .next (s.answered 0x07 .badField [])) ∧
      ∀ h : HeadId, head = h.val →
        ∃ p : List Byte, exec (.readHead head) s = .next (s.answered 0x07 .ok p) ∧ p.length = 22 ∧
          let x := s.head h
          fieldAt p 0 1 = h.val ∧ fieldAt p 2 1 = x.profile.val ∧
            fieldAt p 1 1 = (match x.enable with
              | .disabled => 0
              | .enabled => 1
              | .lockedOut => 2) ∧
            (x.factor ≤ 65535 → fieldAt p 3 2 = x.factor) ∧
            fieldAt p 5 1 = (x.active.map Fin.val).getD 255 ∧ fieldAt p 6 1 = (x.pendingSlot.map Fin.val).getD 255 ∧
            (x.faults ≤ 15 → fieldAt p 7 1 = x.faults) ∧
            fieldAt p 8 1 = (match x.cycle with
              | .idle => 0
              | .waitBottle => 1
              | .skip => 2
              | .pressurize => 3
              | .fillSoft => 4
              | .fillFast => 5
              | .fillTopUp => 6
              | .closing => 7
              | .snift => 8
              | .done => 9
              | .aborted => 10
              | .cleanOpen => 11
              | .cleanPause => 12) ∧
            fieldAt p 9 1 = (s.contact h).toNat ∧ fieldAt p 10 1 = x.contactSeen.toNat ∧
            fieldAt p 11 1 = x.fill.isSome.toNat ∧
            (x.fill = none → fieldAt p 12 1 = 255 ∧ fieldAt p 13 9 = 0) ∧
            ∀ c, x.fill = some c →
              fieldAt p 12 1 = c.slot.val ∧
                (c.target ≤ 4294967295 → fieldAt p 13 4 = (c.target + 500) / 1000) ∧
                (c.delivered ≤ 4294967295 → fieldAt p 17 4 = (c.delivered + 500) / 1000) ∧
                (fieldAt p 21 1).testBit 0 = c.flags.late ∧ (fieldAt p 21 1).testBit 1 = c.flags.overrange ∧
                (fieldAt p 21 1).testBit 2 = c.flags.learned ∧ (fieldAt p 21 1).testBit 3 = c.flags.outlier ∧
                (fieldAt p 21 1).testBit 4 = c.flags.changeover

/-- A contact arrival at a waiting head begins a fill: a pending slot is adopted, the fill context is latched, and
the head is in PRESSURIZE with its dwell, or in FILL_SOFT at once for a dwell of 0 ms; no other head changes (R25,
R27, R28, R51, R52, R99). A waiting head without a slot goes to SKIP with contact seen (R25); a head in SKIP marks
the contact (R26); any other state is left as it is (R22). -/
def Obligations.ContactArrivalBeginsTheFill : Prop :=
  ∀ (h : HeadId) (s : State), s.running = true → s.contact h = false → s.fillingMode = true →
    let x := s.head h
    let level := s.withContact h true
    (x.cycle = .waitBottle → ∀ k, (x.pendingSlot = some k ∨ (x.pendingSlot = none ∧ x.active = some k)) →
        ∃ t : State, exec (.contactArrival h) s = .next t ∧
          OnlyHead h s t { level with slots := t.slots, pendingChangeovers := t.pendingChangeovers } ∧
          t.head h = { x with
            active := some k
            pendingSlot := none
            cycle := if (s.recipe k).pressurizeDwell = 0 then .fillSoft else .pressurize
            timer := if (s.recipe k).pressurizeDwell = 0 then none
              else some ⟨.pressurizeDwell, (s.recipe k).pressurizeDwell⟩
            fill := some (latchedContext s h k ((s.recipe k).target * 1000) x.pendingSlot.isSome) } ∧
          (t.output h).opened =
            (if (s.recipe k).pressurizeDwell = 0 then ⟨false, false, true, false⟩ else ⟨true, false, false, false⟩) ∧
          (∀ j, (t.slot j).recipe = (s.slot j).recipe) ∧
          (x.pendingSlot = none → t.slots = s.slots ∧ t.pendingChangeovers = s.pendingChangeovers) ∧
          (x.pendingSlot = some k → x.active ≠ some k →
            t.pendingChangeovers = s.pendingChangeovers - 1 ∧
              ∀ j, (t.slot j).bindings = (s.slot j).bindings - if x.active = some j then 1 else 0)) ∧
      (x.cycle = .waitBottle → x.active = none → x.pendingSlot = none → s.keepsFilling = true →
        ∃ t : State, exec (.contactArrival h) s = .next t ∧
          OnlyHead h s t { level with inFlight := s.inFlight - 1 } ∧
          t.head h = { x with cycle := .skip, contactSeen := true, timer := none } ∧
          (t.output h).opened = Outputs.allOff) ∧
      (x.cycle = .skip → exec (.contactArrival h) s =
        .next { level with heads := s.heads.set h { x with contactSeen := true } }) ∧
      (x.cycle ≠ .waitBottle → x.cycle ≠ .skip → exec (.contactArrival h) s = .next level)

/-- In CALIBRATION a contact arrival at the armed head starts a run: DOSING, the head in PRESSURIZE or FILL_SOFT and
in flight, with the context latched for the calibration target on the head's slot (R51, R154). Elsewhere, and in
another CU state, a contact arrival leaves every head and CU as they are.
A run ends at its head without a report: at the snift dwell expiry with OVERRANGE, TOO_SMALL or COMPLETE, the CU
state ARMED or AWAIT_ACTUAL (R156); at a contact loss with ABORTED_CONTACT, ARMED (R157). The result carries D and D
div the meter factor; the head goes to IDLE with every output closed. -/
def Obligations.CalibrationRunStartsAndEnds : Prop :=
  (∀ (h : HeadId) (s : State), s.running = true → s.contact h = false → s.mode = .calibration →
     ((s.cal.state ≠ .armed ∨ s.cal.head ≠ some h) →
         exec (.contactArrival h) s = .next (s.withContact h true)) ∧
       (s.cal.state = .armed → s.cal.head = some h → (s.head h).cycle = .idle →
         ∀ k τ, ((s.head h).pendingSlot = some k ∨ ((s.head h).pendingSlot = none ∧ (s.head h).active = some k)) →
           s.cal.target = some τ →
             ∃ t : State, exec (.contactArrival h) s = .next t ∧
               OnlyHead h s t { s.withContact h true with
                 slots := t.slots
                 pendingChangeovers := t.pendingChangeovers
                 inFlight := s.inFlight + 1
                 cal := { s.cal with state := .dosing } } ∧
               t.head h = { s.head h with
                 active := some k
                 pendingSlot := none
                 cycle := if (s.recipe k).pressurizeDwell = 0 then .fillSoft else .pressurize
                 timer := if (s.recipe k).pressurizeDwell = 0 then none
                   else some ⟨.pressurizeDwell, (s.recipe k).pressurizeDwell⟩
                 fill := some (latchedContext s h k (τ * 1000) (s.head h).pendingSlot.isSome) } ∧
               (∀ j, (t.slot j).recipe = (s.slot j).recipe) ∧
               ((s.head h).pendingSlot = none →
                 t.slots = s.slots ∧ t.pendingChangeovers = s.pendingChangeovers))) ∧
    ∀ (h : HeadId) (s : State) (c : FillContext), s.running = true → s.mode = .calibration →
      (s.head h).fill = some c → (s.head h).cycle.holdsFill = true →
        ((s.head h).cycle = .snift → (s.head h).timer.map Timer.kind = some .sniftDwell →
            ∃ t : State, exec (.sniftDwellExpiry h) s = .next t ∧
              RunEnded s h c (judgedRun c) (if judgedRun c = .complete then .awaitActual else .armed) t) ∧
          (s.contact h = true →
            ∃ t : State, exec (.contactLoss h) s = .next t ∧
              RunEnded (s.withContact h false) h c .abortedContact .armed t)

/-- A contact loss ends a fill: in PRESSURIZE, a fill stage or CLOSING with a BURST report, the head ABORTED with its
vent running for the slot's snift dwell (R28, R31, R35, R39); in SNIFT with a SHORT_SNIFT report and the head in IDLE
(R36). The report is the queue's newest, or is lost if the queue is full (R40, R120 to R122); the correction entries,
the fault count (R41) and every other head are untouched. A head without a fill is left as it is (R25, R26). -/
def Obligations.ContactLossEndsTheFill : Prop :=
  ∀ (h : HeadId) (s : State), s.running = true → s.contact h = true →
    let x := s.head h
    let level := s.withContact h false
    (x.cycle.holdsFill = false → exec (.contactLoss h) s = .next level) ∧
      ∀ c : FillContext, s.keepsFilling = true → x.fill = some c →
        let dwell := (s.recipe c.slot).sniftDwell
        let left := fun v : Verdict => { level with
          inFlight := s.inFlight - 1
          reports := s.reports.filed (storedFill s.reports h c v)
          alarms := s.alarmsFiled 1 }
        (x.cycle.holdsFill = true → x.cycle ≠ .snift →
          ∃ t : State, exec (.contactLoss h) s = .next t ∧ OnlyHead h s t (left .burst) ∧
            t.head h = { x with
              cycle := .aborted
              fill := none
              timer := if dwell = 0 then none else some ⟨.vent, dwell⟩ } ∧
            (t.output h).opened = ⟨false, false, false, decide (dwell ≠ 0)⟩) ∧
          (x.cycle = .snift →
            ∃ t : State, exec (.contactLoss h) s = .next t ∧ OnlyHead h s t (left .shortSnift) ∧
              t.head h = x.atRest ∧ (t.output h).opened = Outputs.allOff)

/-- The expiries that create no report: the contact window takes a waiting head to IDLE (R25), the pressurize dwell
takes its head to FILL_SOFT with the narrow output open (R28, R107), and the vent dwell closes the SNIFT output of an
ABORTED head (R39). An expiry of a timer that does not run changes nothing (R22, Log 9). -/
def Obligations.DwellAndWindowExpiries : Prop :=
  ∀ (h : HeadId) (s : State), s.running = true →
    let x := s.head h
    (s.keepsFilling = true → x.cycle = .waitBottle → x.timer.map Timer.kind = some .contactWindow →
        ∃ t : State, exec (.contactWindowExpiry h) s = .next t ∧
          OnlyHead h s t { s with inFlight := s.inFlight - 1 } ∧ t.head h = x.atRest ∧
          (t.output h).opened = Outputs.allOff) ∧
      (x.cycle = .pressurize → x.timer.map Timer.kind = some .pressurizeDwell →
        ∃ t : State, exec (.pressurizeDwellExpiry h) s = .next t ∧ OnlyHead h s t s ∧
          t.head h = { x with cycle := .fillSoft, timer := none } ∧
          (t.output h).opened = ⟨false, false, true, false⟩) ∧
      (x.cycle = .aborted → x.timer.map Timer.kind = some .vent →
        ∃ t : State, exec (.ventDwellExpiry h) s = .next t ∧ OnlyHead h s t s ∧
          t.head h = { x with timer := none } ∧ (t.output h).opened = Outputs.allOff ∧ (t.output h).vent = false) ∧
      (x.timer = none →
        ∀ i ∈ [Instr.contactWindowExpiry h, .pressurizeDwellExpiry h, .settleExpiry h, .sniftDwellExpiry h,
          .ventDwellExpiry h], exec i s = .next s)

/-- A settle expiry fixes V and in PRODUCTION and DRAINING takes the learning step: with error e = V - T and gain g,
an eligible fill adds trunc(e × g / 16) to its entry, held within the bounds, sets the learned flag and removes a
reservation on that entry; an error above the outlier limit sets the outlier flag; the head goes to SNIFT (R34,
R64, R71, R78), or for a snift dwell of 0 ms the fill is judged within the expiry (R36). In CALIBRATION nothing is
learned (R63, R155). That a fault verdict at a count already held at 15 counts as an increase is the model's choice
(Log 24). -/
def Obligations.SettleExpiryLearnsFromTheError : Prop :=
  ∀ (h : HeadId) (s : State) (c : FillContext), s.running = true → (s.head h).cycle = .closing →
    (s.head h).timer.map Timer.kind = some .settle → (s.head h).fill = some c →
      let x := s.head h
      let r := s.recipe c.slot
      let e : Int := (c.delivered : Int) - c.target
      let outlier := decide ((r.outlierLimit : Int) * 1000 < |e|)
      let learns := !c.flags.overrange && !c.flags.late && decide (0 < r.gain) && !outlier
      let c' : FillContext := { c with
        flags := { c.flags with learned := c.flags.learned || learns, outlier := c.flags.outlier || outlier } }
      let learnt := fun t : State => (∀ g k, t.correction g k =
        if g = h ∧ k = c.slot ∧ learns = true then
          boundedCorrection (s.correction h c.slot + Int.tdiv (e * r.gain) 16)
        else s.correction g k)
      let left := if learns = true ∧ s.reservation = some (h, c.slot) then none else s.reservation
      let v := judgedVerdict r c
      let limit := s.tracker.geometry.lockoutThreshold
      let sniffing := fun (y : Head) => { y with cycle := .snift, timer := some ⟨.sniftDwell, r.sniftDwell⟩ }
      (s.fillingMode = true → r.sniftDwell ≠ 0 →
          ∃ t : State, exec (.settleExpiry h) s = .next t ∧
            OnlyHead h s t { s with corrections := t.corrections, reservation := left } ∧ learnt t ∧
            t.head h = sniffing { x with fill := some c' } ∧ (t.output h).opened = ⟨false, false, false, true⟩) ∧
        (s.keepsFilling = true → r.sniftDwell = 0 →
          ∃ t : State, exec (.settleExpiry h) s = .next t ∧
            OnlyHead h s t { s with
              corrections := t.corrections
              reservation := left
              inFlight := s.inFlight - 1
              reports := s.reports.filed (storedFill s.reports h c' v)
              alarms := { s.alarmsFiled 1 with headLockout := s.alarms.headLockout || judgedLock limit v x } } ∧
            learnt t ∧ t.head h = judgedHead limit v x ∧ (t.output h).opened = Outputs.allOff) ∧
        (s.mode = .calibration → r.sniftDwell ≠ 0 →
          ∃ t : State, exec (.settleExpiry h) s = .next t ∧ OnlyHead h s t s ∧ t.head h = sniffing x) ∧
        (s.mode = .calibration → r.sniftDwell = 0 →
          ∃ t : State, exec (.settleExpiry h) s = .next t ∧
            RunEnded s h c (judgedRun c) (if judgedRun c = .complete then .awaitActual else .armed) t)

/-- A snift dwell expiry judges a production fill by its flags and by V against the exact bounds, hands its report
over, counts the verdict in the head's fault count and locks the head out at the threshold, and takes it to DONE
(R36, R40, R41, R65, R66, R120 to R122); no other head changes. That a fault verdict at a count already held at 15
counts as an increase is the model's choice (Log 24). The last head out of flight in DRAINING:
LastHeadOutEndsDraining. -/
def Obligations.SniftExpiryJudgesTheFill : Prop :=
  ∀ (h : HeadId) (s : State) (c : FillContext), s.running = true → s.keepsFilling = true →
    (s.head h).cycle = .snift → (s.head h).timer.map Timer.kind = some .sniftDwell → (s.head h).fill = some c →
      let v := judgedVerdict (s.recipe c.slot) c
      let limit := s.tracker.geometry.lockoutThreshold
      ∃ t : State, exec (.sniftDwellExpiry h) s = .next t ∧
        OnlyHead h s t { s with
          inFlight := s.inFlight - 1
          reports := s.reports.filed (storedFill s.reports h c v)
          alarms := { s.alarmsFiled 1 with
            headLockout := s.alarms.headLockout || judgedLock limit v (s.head h) } } ∧
        t.head h = judgedHead limit v (s.head h) ∧ (t.output h).opened = Outputs.allOff

/-- A contact change or a timer expiry at one head touches no other head's record, outputs or lane, unless it ends
DRAINING, whose end acts on every head (section 2 of chapter 2, R43). -/
def Obligations.HeadEventsTouchOneHead : Prop :=
  ∀ (h g : HeadId) (s t : State) (i : Instr), g ≠ h → (s.mode ≠ .draining ∨ 1 < s.inFlight) →
    i ∈ [Instr.contactArrival h, .contactLoss h, .contactWindowExpiry h, .pressurizeDwellExpiry h,
      .settleExpiry h, .sniftDwellExpiry h, .ventDwellExpiry h] →
        exec i s = .next t →
          t.head g = s.head g ∧ t.output g = s.output g ∧ t.lane g = s.lane g ∧ t.contact g = s.contact g ∧
            ∀ k, t.correction g k = s.correction g k

/-! ### Dose Engine, clock and lines -/

/-- A tick adds 1 to the 32-bit wrapping clock and changes nothing else (R23); a pulse adds 1 to its head's 16-bit
wrapping counter and changes nothing else (R46); a change of the product-ready line is recorded and changes nothing
else (R144). -/
def Obligations.TicksPulsesAndReadyLine : Prop :=
  ∀ s : State, s.running = true →
    exec .millisecondTick s = .next { s with clock := s.clock + 1 } ∧
      (∀ h, exec (.flowmeterPulse h) s =
        .next { s with lanes := s.lanes.set h { s.lane h with counter := (s.lane h).counter + 1 } }) ∧
      ∀ high, exec (.productReadyChange high) s =
        .next { s with productReady := high, pins := { s.pins with productReady := high } }

/-- One scan of a head in a fill stage (R48, R49, R51 to R61, R32, R33, R157): the raw delta modulo 65,536, its clamp
and the overrange flag, D with saturation, F with the floor, the grace and zero-scan bookkeeping, the stuck abort, and
otherwise the first of close, to top-up and to fast that holds. A stuck abort files a METER_STUCK report and counts a
fault (R40, R41; a count already held at 15 counts as increased, the model's choice, Log 24); in CALIBRATION it ends
the run with ABORTED_STUCK and CU in ARMED. The heads of the other banks are untouched, unless the aborts take the
last heads out of flight in DRAINING: the mode is then STANDBY and every head in IDLE (R43, R138). -/
def Obligations.ScanMetersAndDecides : Prop :=
  ∀ (h : HeadId) (b : BankId) (s : State) (c : FillContext), s.running = true →
    (s.mode = .draining → s.flightCounted) → h.val / 16 = b.val → (s.head h).cycle.isFillStage = true →
    (s.head h).fill = some c →
      let x := s.head h
      let r := s.recipe c.slot
      let raw := ((s.lane h).counter.toNat + 65536 - (s.lane h).lastSample.toNat) % 65536
      let used := if r.pulseCeiling < raw then r.pulseCeiling else raw
      let inc := used * c.factor
      let D := if 4294967295 < c.delivered + inc then 4294967295 else c.delivered + inc
      let F := ((c.flow : Int) + ((inc : Int) - c.flow) / (2 ^ r.smoothing : Int)).toNat
      let zeros := if 0 < c.grace then c.zeroScans else if used = 0 then c.zeroScans + 1 else 0
      let limit := (r.stuckWindow * 1000 + 255) / 256
      let A := if 4294967295 < F * c.closingLag / 256 then 4294967295 else F * c.closingLag / 256
      let R := c.closeTarget - D
      let c' : FillContext := { c with
        delivered := D
        flow := F
        zeroScans := zeros
        grace := c.grace - 1
        flags := { c.flags with overrange := c.flags.overrange || decide (r.pulseCeiling < raw) } }
      let stuck := c.grace = 0 ∧ used = 0 ∧ limit ≤ zeros
      let ends := scanEndsDraining b s
      let alone := ∀ g : HeadId, g ≠ h → g.val / 16 = b.val → s.stuckAt g = false
      let locks := lockedAt s.tracker.geometry.lockoutThreshold x
      let counted : Head := { x with
        faults := raisedFaults x
        enable := if locks then .lockedOut else x.enable }
      ∃ t : State, exec (.bankScan b) s = .next t ∧ t.lane h = ⟨(s.lane h).counter, (s.lane h).counter⟩ ∧
        (stuck → s.mode ≠ .calibration → ¬ends → t.head h = { counted with
            cycle := .aborted
            fill := none
            timer := if r.sniftDwell = 0 then none else some ⟨.vent, r.sniftDwell⟩ } ∧
            (t.output h).opened = ⟨false, false, false, decide (r.sniftDwell ≠ 0)⟩) ∧
          (stuck → s.mode ≠ .calibration → s.reports.records.length + 128 ≤ 256 →
            ∃ q ∈ t.reports.records, q.head = h ∧ q.verdict = .meterStuck ∧ q.slot = some c.slot ∧
              q.flags = c'.flags ∧ q.finalVolume = (D + 500) / 1000 ∧ q.target = (c.target + 500) / 1000 ∧
              q.correction = linkCorrection c.correction ∧ q.duration = c.duration) ∧
          (stuck → s.mode ≠ .calibration → ¬ends → alone →
            t.reports = s.reports.filed (storedFill s.reports h c' .meterStuck) ∧ t.inFlight = s.inFlight - 1 ∧
              t.alarms = { s.alarmsFiled 1 with headLockout := s.alarms.headLockout || locks }) ∧
          (ends → t.mode = .standby ∧ t.inFlight = 0 ∧ t.head h = counted.atRest ∧
            ∀ g : HeadId, (t.head g).cycle = .idle ∧ (t.output g).opened = Outputs.allOff) ∧
          (stuck → s.mode = .calibration → t.head h = x.atRest ∧ (t.output h).opened = Outputs.allOff ∧
            (alone → t.reports = s.reports ∧ t.alarms = s.alarms ∧ t.inFlight = s.inFlight - 1 ∧
              t.cal = { s.cal with
                state := .armed
                last := some ⟨h, .abortedStuck, D / c.factor, D, none, none, none⟩ })) ∧
          (¬stuck → R ≤ A → t.head h = { x with
            cycle := .closing
            timer := some ⟨.settle, r.settleTime⟩
            fill := some { c' with duration := min 65535 (s.clock - c.startTime).toNat } }) ∧
          (¬stuck → A < R → x.cycle = .fillFast → R ≤ r.topUpBand * 1000 →
            t.head h = { x with cycle := .fillTopUp, timer := none, fill := some c' }) ∧
          (¬stuck → A < R → x.cycle = .fillSoft → r.softStart * 1000 ≤ D →
            t.head h = { x with cycle := .fillFast, timer := none, fill := some c' }) ∧
          (¬stuck → A < R → ¬(x.cycle = .fillFast ∧ R ≤ r.topUpBand * 1000) →
            ¬(x.cycle = .fillSoft ∧ r.softStart * 1000 ≤ D) → t.head h = { x with fill := some c' }) ∧
          (¬ends → t.mode = s.mode ∧ ∀ g : HeadId, g.val / 16 ≠ b.val →
            t.head g = s.head g ∧ t.output g = s.output g ∧ t.lane g = s.lane g) ∧
          t = { s with
            heads := t.heads
            outputs := t.outputs
            lanes := t.lanes
            inFlight := t.inFlight
            reports := t.reports
            mode := t.mode
            alarms := t.alarms
            cal := t.cal
            choices := t.choices
            cleaning := { s.cleaning with counters := t.cleaning.counters } }

/-- A scan of a head in CLOSING adds to D and F alone and takes no decision (R62), in DRAINING too: the head is in
flight, so the scan does not end DRAINING (R138). -/
def Obligations.ScanInClosingOnlyMeters : Prop :=
  ∀ (h : HeadId) (b : BankId) (s : State) (c : FillContext), s.running = true →
    (s.mode = .draining → s.flightCounted) →
    h.val / 16 = b.val → (s.head h).cycle = .closing → (s.head h).fill = some c →
      let r := s.recipe c.slot
      let raw := ((s.lane h).counter.toNat + 65536 - (s.lane h).lastSample.toNat) % 65536
      let inc := (if r.pulseCeiling < raw then r.pulseCeiling else raw) * c.factor
      ∃ t : State, exec (.bankScan b) s = .next t ∧
        t.head h = { s.head h with
          fill := some { c with
            delivered := if 4294967295 < c.delivered + inc then 4294967295 else c.delivered + inc
            flow := ((c.flow : Int) + ((inc : Int) - c.flow) / (2 ^ r.smoothing : Int)).toNat
            flags := { c.flags with overrange := c.flags.overrange || decide (r.pulseCeiling < raw) } } } ∧
        t.output h = s.output h ∧ t.lane h = ⟨(s.lane h).counter, (s.lane h).counter⟩

/-- A scan while no head holds a fill takes every sample of its bank, adds the pulses of the heads in CLEAN_OPEN to
their cleaning counters, and changes nothing else (R47, R48, R50, R166).
A scan of a lane whose head is not metered (PRESSURIZE, SNIFT, or at rest while another head fills) takes the sample
and discards the delta: head, context and outputs stay as they are (R48, R50), unless the scan's aborts take the last
heads out of flight in DRAINING, where the head goes to IDLE (R43, R138). -/
def Obligations.ScanWithoutFillsOnlySamples : Prop :=
  (∀ (b : BankId) (s : State), s.running = true → (∀ h, (s.head h).fill = none) →
    (∀ h : HeadId, s.cleaning.counters[h] + 65535 * (s.head h).factor < 2 ^ 64) →
      exec (.bankScan b) s =
        .next { s with
          lanes := Vector.ofFn fun h : HeadId =>
            if h.val / 16 = b.val then ⟨(s.lane h).counter, (s.lane h).counter⟩ else s.lane h
          cleaning := { s.cleaning with
            counters := Vector.ofFn fun h : HeadId =>
              if h.val / 16 = b.val ∧ (s.head h).cycle = .cleanOpen then
                s.cleaning.counters[h] +
                  ((s.lane h).counter.toNat + 65536 - (s.lane h).lastSample.toNat) % 65536 * (s.head h).factor
              else s.cleaning.counters[h] } }) ∧
    ∀ (h : HeadId) (b : BankId) (s : State), s.running = true → h.val / 16 = b.val →
      (s.head h).cycle.isFillStage = false → (s.head h).cycle ≠ .closing → (s.mode = .draining → s.flightCounted) →
        ∃ t : State, exec (.bankScan b) s = .next t ∧ t.lane h = ⟨(s.lane h).counter, (s.lane h).counter⟩ ∧
          ((s.head h).cycle ≠ .cleanOpen → t.cleaning.counters[h] = s.cleaning.counters[h]) ∧
          (¬scanEndsDraining b s → t.head h = s.head h ∧ t.output h = s.output h) ∧
          (scanEndsDraining b s → t.head h = (s.head h).atRest)

/-! ### Correction Table -/

/-- READ CORRECTION FOR EDIT places the reservation on an entry of a LOADED slot and answers its value; WRITE
CORRECTION stores value × 1,000, held within the bounds, if the reservation names its entry, and else answers
NO_RESERVATION with the entry unchanged; either way no reservation is left (R77, R67). Refusals leave both.
RESTORE CORRECTIONS: WRONG_MODE outside STANDBY and HALTED, BAD_FIELD for a slot above 7, SLOT_EMPTY for an EMPTY
slot; accepted, every value × 1,000, held within the bounds, is the entry of its head and slot, a reservation on the
slot is removed, and the reply carries how many values were changed by the bounds (R74). -/
def Obligations.WriteAndRestoreCorrections : Prop :=
  (∀ (head slot : Nat) (value : Int) (s : State), s.listening = true →
     ((63 < head ∨ 7 < slot) →
         exec (.readCorrectionForEdit head slot) s = .next (s.answered 0x0F .badField []) ∧
           exec (.writeCorrection head slot value) s = .next (s.answered 0x10 .badField [])) ∧
       ∀ (h : HeadId) (k : SlotId), head = h.val → slot = k.val →
         let written := boundedCorrection (value * 1000)
         ((s.slot k).recipe = none →
             exec (.readCorrectionForEdit head slot) s = .next (s.answered 0x0F .slotEmpty [])) ∧
           ((s.slot k).recipe ≠ none →
             exec (.readCorrectionForEdit head slot) s =
               .next (State.answered { s with reservation := some (h, k) } 0x0F .ok
                 (leSigned16 (linkCorrection (s.correction h k))))) ∧
           (s.reservation = some (h, k) →
             exec (.writeCorrection head slot value) s =
               .next (State.answered
                 { s with
                   corrections := s.corrections.set k ((s.corrections[k]).set h written)
                   reservation := none }
                 0x10 .ok (leSigned16 (linkCorrection written)))) ∧
           (s.reservation ≠ some (h, k) →
             exec (.writeCorrection head slot value) s =
               .next (State.answered { s with reservation := none } 0x10 .noReservation
                 (leSigned16 (linkCorrection (s.correction h k)))))) ∧
    ∀ (slot : Nat) (values : Vector Int 64) (s : State), s.listening = true →
      let op := exec (.restoreCorrections slot values) s
      (s.idleMode = false → op = .next (s.answered 0x11 .wrongMode [])) ∧
        (s.idleMode = true → 7 < slot → op = .next (s.answered 0x11 .badField [])) ∧
        ∀ k : SlotId, slot = k.val → s.idleMode = true →
          ((s.slot k).recipe = none → op = .next (s.answered 0x11 .slotEmpty [])) ∧
            ((s.slot k).recipe ≠ none →
              op = .next (State.answered
                { s with
                  corrections := s.corrections.set k
                    (Vector.ofFn fun h : HeadId => boundedCorrection (values[h] * 1000))
                  reservation := reservationWithout k s.reservation }
                0x11 .ok
                (leBytes 1 (allHeads.countP fun h : HeadId =>
                  decide (values[h] * 1000 < -20000000 ∨ 20000000 < values[h] * 1000)))))

/-- READ CORRECTIONS changes nothing and answers the 64 entries of the slot's column in order from head 0, each in
µL rounded to nearest, a half away from zero; a slot above 7 is BAD_FIELD (R75, R67). -/
def Obligations.ReadCorrectionsAnswersTheColumn : Prop :=
  ∀ (slot : Nat) (s : State), s.listening = true →
    (7 < slot → exec (.readCorrections slot) s = .next (s.answered 0x0E .badField [])) ∧
      ∀ k : SlotId, slot = k.val →
        ∃ p : List Byte, exec (.readCorrections slot) s = .next (s.answered 0x0E .ok p) ∧ p.length = 128 ∧
          ∀ h : HeadId, -20000000 ≤ s.correction h k → s.correction h k ≤ 20000000 →
            signed16 (fieldAt p (2 * h.val) 2) = linkCorrection (s.correction h k)

/-! ### Recipe Table -/

/-- LOAD RECIPE refuses a slot above 7, then a bound slot, then a field of the refused class out of range; accepted,
it stores the recipe with the clamped fields brought into range, clears the slot's column, removes a reservation on
the slot, keeps the binding count, and answers the clamp mask (R73, R85 to R88).
UNLOAD RECIPE refuses a slot above 7 and a bound slot; accepted, the slot is EMPTY, its column is cleared and a
reservation on it removed (R90, R73). -/
def Obligations.LoadAndUnloadRecipe : Prop :=
  (∀ (slot : Nat) (r : Recipe) (s : State), s.listening = true →
     let op := exec (.loadRecipe slot r) s
     (7 < slot → op = .next (s.answered 0x0A .badField [])) ∧
       ∀ k : SlotId, slot = k.val →
         (0 < (s.slot k).bindings → op = .next (s.answered 0x0A .slotBound [])) ∧
           ((s.slot k).bindings = 0 → recipeLoadable r = false → op = .next (s.answered 0x0A .badField [])) ∧
           ((s.slot k).bindings = 0 → recipeLoadable r = true →
             op = .next (State.answered
               { s with
                 slots := s.slots.set k ⟨some (recipeAsStored r), 0⟩
                 corrections := s.corrections.set k (Vector.replicate 64 0)
                 reservation := reservationWithout k s.reservation }
               0x0A .ok (leBytes 1 (clampMarks r))))) ∧
    ∀ (slot : Nat) (s : State), s.listening = true →
      let op := exec (.unloadRecipe slot) s
      (7 < slot → op = .next (s.answered 0x0C .badField [])) ∧
        ∀ k : SlotId, slot = k.val →
          (0 < (s.slot k).bindings → op = .next (s.answered 0x0C .slotBound [])) ∧
            ((s.slot k).bindings = 0 →
              op = .next (State.answered
                { s with
                  slots := s.slots.set k ⟨none, 0⟩
                  corrections := s.corrections.set k (Vector.replicate 64 0)
                  reservation := reservationWithout k s.reservation }
                0x0C .ok []))

/-- READ RECIPE changes nothing and answers the slot, its state, its binding count and, if it is LOADED, the recipe
as stored; a slot above 7 is BAD_FIELD (R91, R181).
READ VALVE PROFILE changes nothing and answers the seven fields and the number of heads that name the profile;
a profile above 7 is BAD_FIELD (R106, R178). -/
def Obligations.ReadRecipeAndReadValveProfile : Prop :=
  (∀ (slot : Nat) (s : State), s.listening = true →
     (7 < slot → exec (.readRecipe slot) s = .next (s.answered 0x0B .badField [])) ∧
       ∀ k : SlotId, slot = k.val →
         ∃ p : List Byte, exec (.readRecipe slot) s = .next (s.answered 0x0B .ok p) ∧
           fieldAt p 0 1 = slot ∧ ((s.slot k).bindings ≤ 64 → fieldAt p 2 1 = (s.slot k).bindings) ∧
           ((s.slot k).recipe = none → p.length = 3 ∧ fieldAt p 1 1 = 0) ∧
           ∀ r, (s.slot k).recipe = some r →
             p.length = 35 ∧ fieldAt p 1 1 = 1 ∧ (r.wellFormed = true → Recipe.decode p 3 = r)) ∧
    ∀ (profile : Nat) (s : State), s.listening = true →
      (7 < profile → exec (.readValveProfile profile) s = .next (s.answered 0x05 .badField [])) ∧
        ∀ k : ProfileId, profile = k.val →
          ∃ p : List Byte, exec (.readValveProfile profile) s = .next (s.answered 0x05 .ok p) ∧ p.length = 11 ∧
            fieldAt p 0 1 = profile ∧
            (s.profiles[k].openLag ≤ 32767 → fieldAt p 1 2 = s.profiles[k].openLag) ∧
            (s.profiles[k].closingLag ≤ 32767 → fieldAt p 3 2 = s.profiles[k].closingLag) ∧
            fieldAt p 5 1 = (if s.profiles[k].gas = .normal then 0 else 1) ∧
            fieldAt p 6 1 = (if s.profiles[k].wide = .normal then 0 else 1) ∧
            fieldAt p 7 1 = (if s.profiles[k].narrow = .normal then 0 else 1) ∧
            fieldAt p 8 1 = (if s.profiles[k].snift = .normal then 0 else 1) ∧
            fieldAt p 9 1 = (if s.profiles[k].fastDrive = .wideWithNarrow then 0 else 1) ∧
            fieldAt p 10 1 = allHeads.countP fun h => decide ((s.head h).profile = k)

/-- BIND RECIPE checks the slot code, the head count, the slot's state and, for slot none, the heads that need a
recipe; accepted, each named head is bound at once in STANDBY, HALTED and CLEANING and in CALIBRATION without a fill,
and is given a pending slot in PRODUCTION and DRAINING and in CALIBRATION with a fill, or loses it where the slot is
its active one; slot none takes both slots; no other head changes and no recipe does (R94 to R98). -/
def Obligations.BindRecipeByMode : Prop :=
  ∀ (mask : HeadMask) (slot : Nat) (s : State), s.listening = true →
    let op := exec (.bindRecipe mask slot) s
    let named := fun h : HeadId => mask.getLsbD h.val = true
    let beyond := s.tracker.geometry.headCount ≠ 0 ∧ ∃ h, named h ∧ s.tracker.geometry.headCount ≤ h.val
    let needful := ∃ h, named h ∧ ((s.head h).enable = .enabled ∨ (s.head h).fill.isSome = true ∨
      (s.cal.state ≠ .idle ∧ s.cal.head = some h))
    let bound := fun (f : HeadId → Head) =>
      ∃ t : State, op = .next (t.answered 0x0D .ok []) ∧
        t = { s with heads := t.heads, slots := t.slots, pendingChangeovers := t.pendingChangeovers } ∧
        (∀ h, t.head h = if mask.getLsbD h.val then f h else s.head h) ∧
        ∀ j, (t.slot j).recipe = (s.slot j).recipe
    (7 < slot → slot ≠ 255 → op = .next (s.answered 0x0D .badField [])) ∧
      (slot = 255 → needful → op = .next (s.answered 0x0D .recipeMissing [])) ∧
      (slot = 255 → ¬needful → bound fun h => { s.head h with active := none, pendingSlot := none }) ∧
      ∀ k : SlotId, slot = k.val →
        (beyond → op = .next (s.answered 0x0D .badField [])) ∧
          (¬beyond → (s.slot k).recipe = none → op = .next (s.answered 0x0D .slotEmpty [])) ∧
          (¬beyond → (s.slot k).recipe ≠ none → bound fun h =>
            let x := s.head h
            if s.fillingMode = true ∨ (s.mode = .calibration ∧ x.fill.isSome = true) then
              (if x.active = some k then { x with pendingSlot := none } else { x with pendingSlot := some k })
            else { x with active := some k, pendingSlot := none })

/-! ### Valve Driver -/

/-- SET VALVE PROFILE: WRONG_MODE outside STANDBY and HALTED, BAD_FIELD for a profile above 7, a lag above 32,767 or a
code above 1; accepted, it replaces the seven fields, and VD derives the terminals of every head that names the
profile and of no other (R105, R109). -/
def Obligations.SetValveProfileReplacesTheFields : Prop :=
  ∀ (profile : Nat) (f : ProfileFields) (s : State), s.listening = true →
    let op := exec (.setValveProfile profile f) s
    let codes := f.gasPolarity ≤ 1 ∧ f.widePolarity ≤ 1 ∧ f.narrowPolarity ≤ 1 ∧ f.sniftPolarity ≤ 1 ∧
      f.fastDrive ≤ 1
    let fits := f.openLag ≤ 32767 ∧ f.closingLag ≤ 32767 ∧ codes
    let wired := fun n : Nat => if n = 0 then Polarity.normal else .inverted
    let p : ValveProfile := ⟨f.openLag, f.closingLag, wired f.gasPolarity, wired f.widePolarity,
      wired f.narrowPolarity, wired f.sniftPolarity, if f.fastDrive = 0 then .wideWithNarrow else .wideAlone⟩
    (s.idleMode = false → op = .next (s.answered 0x04 .wrongMode [])) ∧
      (s.idleMode = true → (7 < profile ∨ ¬fits) → op = .next (s.answered 0x04 .badField [])) ∧
      ∀ k : ProfileId, profile = k.val → s.idleMode = true → fits →
        op = .next (State.answered
          { s with
            profiles := s.profiles.set k p
            outputs := Vector.ofFn fun h : HeadId =>
              if (s.head h).profile = k then
                { s.output h with terminals := terminalsOf s.drive p (s.output h).opened }
              else s.output h }
          0x04 .ok [])

/-- A valve power loss drops every terminal, latches VALVE_POWER_LOST and halts the D64 with its reports (R111, R140,
R44), and ends a calibration without a report, a run in DOSING as ABANDONED (R160); a return powers the strings
and derives every terminal from the open sets it finds, and changes neither mode nor alarms (R113, R140). -/
def Obligations.ValvePowerLossAndReturn : Prop :=
  (∀ s : State, s.running = true → s.pins.valvePower = true → CalibrationFitsMode s →
      (s.mode = .calibration → HeadsLaw s) →
      ∃ t : State, exec .valvePowerLoss s = .next t ∧
        HaltedFrom
          { s with
            drive := .unpowered
            valvePower := false
            pins := { s.pins with valvePower := false }
            alarms := { s.alarms with valvePowerLost := true } } t) ∧
    ∀ s : State, s.running = true → s.pins.valvePower = false →
      exec .valvePowerReturn s =
        .next { s with
          drive := .powered
          valvePower := true
          pins := { s.pins with valvePower := true }
          outputs := Vector.ofFn fun h : HeadId =>
            { s.output h with
              terminals := terminalsOf .powered s.profiles[(s.head h).profile] (s.output h).opened } }

/-! ### Report Queue -/

/-- PEEK REPORTS refuses n outside 1..16; otherwise it changes nothing and answers the number of records returned, the
smaller of n and the count, and those records, oldest first (R128, R181), with the verdict codes of R118. -/
def Obligations.PeekReportsAnswersTheOldest : Prop :=
  ∀ (n : Nat) (s : State), s.listening = true →
    ((n = 0 ∨ 16 < n) → exec (.peekReports n) s = .next (s.answered 0x1B .badField [])) ∧
      (1 ≤ n → n ≤ 16 →
        ∃ p : List Byte, exec (.peekReports n) s = .next (s.answered 0x1B .ok p) ∧
          let m := min n s.reports.records.length
          fieldAt p 0 1 = m ∧ p.length = 1 + 22 * m ∧
            ∀ (j : Nat) (r : Report), j < m → s.reports.records[j]? = some r →
              fieldAt p (1 + 22 * j) 4 = r.sequence.toNat ∧ fieldAt p (5 + 22 * j) 1 = r.head.val ∧
                fieldAt p (6 + 22 * j) 1 = (r.slot.map Fin.val).getD 255 ∧
                fieldAt p (7 + 22 * j) 1 = (match r.verdict with
                  | .accept => 0
                  | .underfill => 1
                  | .overfill => 2
                  | .late => 3
                  | .shortSnift => 4
                  | .burst => 5
                  | .meterStuck => 6
                  | .meterFault => 7
                  | .halted => 8
                  | .unfilled => 9) ∧
                (fieldAt p (8 + 22 * j) 1).testBit 0 = r.flags.late ∧
                (fieldAt p (8 + 22 * j) 1).testBit 1 = r.flags.overrange ∧
                (fieldAt p (8 + 22 * j) 1).testBit 2 = r.flags.learned ∧
                (fieldAt p (8 + 22 * j) 1).testBit 3 = r.flags.outlier ∧
                (fieldAt p (8 + 22 * j) 1).testBit 4 = r.flags.changeover ∧
                (r.finalVolume ≤ 4294967 → fieldAt p (9 + 22 * j) 3 = r.finalVolume) ∧
                (r.target ≤ 3000000 → fieldAt p (12 + 22 * j) 3 = r.target) ∧
                (-20000 ≤ r.correction → r.correction ≤ 20000 →
                  signed16 (fieldAt p (15 + 22 * j) 2) = r.correction) ∧
                (r.duration ≤ 65535 → fieldAt p (17 + 22 * j) 2 = r.duration) ∧
                fieldAt p (19 + 22 * j) 4 = r.lostBefore.toNat)

/-- DISCARD REPORTS refuses n above 256; otherwise it removes the oldest records, as many as the smaller of n and the
count, and answers that number; the counters stay (R129).
SET REPORTING refuses a threshold other than 192, 208, 224 and 240; otherwise it stores it, leaves the queue and
both counters, and answers the threshold and the count of records; NEAR_FULL in the reply's summary compares the
count with the new threshold (R127, R126). -/
def Obligations.DiscardAndSetReporting : Prop :=
  (∀ (n : Nat) (s : State), s.listening = true →
     (256 < n → exec (.discardReports n) s = .next (s.answered 0x1C .badField [])) ∧
       (n ≤ 256 → exec (.discardReports n) s =
         .next (State.answered
           { s with reports := { s.reports with records := s.reports.records.drop n } } 0x1C .ok
           (leBytes 2 (min n s.reports.records.length))))) ∧
    ∀ (n : Nat) (s : State), s.listening = true →
      (n ∉ [192, 208, 224, 240] → exec (.setReporting n) s = .next (s.answered 0x1D .badField [])) ∧
        (n ∈ [192, 208, 224, 240] →
          let u := { s with reports := { s.reports with threshold := n } }
          exec (.setReporting n) s =
              .next (u.answered 0x1D .ok (leBytes 1 n ++ leBytes 2 s.reports.records.length)) ∧
            (fieldAt u.summary 1 2).testBit 3 = decide (n ≤ s.reports.records.length))

/-! ### Mode Controller -/

/-- START PRODUCTION: WRONG_MODE outside STANDBY and DRAINING; there GEOMETRY_UNSET, NOT_REFERENCED, NOTHING_ENABLED and
RECIPE_MISSING are judged in that order; accepted, the mode is PRODUCTION and the lead count 0, and no head changes
(R136, R7).
CLEAR HALT: WRONG_MODE outside HALTED, NO_VALVE_POWER while power is absent; accepted, the mode is STANDBY, a
FAULTED tracker becomes UNREFERENCED with its counts at 0 and another keeps state and counts; no alarm is cleared
(R141, R15). -/
def Obligations.StartProductionAndClearHalt : Prop :=
  (∀ s : State, s.listening = true →
     let op := exec .startProduction s
     let refused := fun st => op = .next (s.answered 0x12 st [])
     let may := s.mode = .standby ∨ s.mode = .draining
     let set := s.tracker.geometry.headCount ≠ 0
     let sure := s.tracker.status = .referenced
     let some_ := ∃ h, (s.head h).enable = .enabled
     let all := ∀ h, (s.head h).enable = .enabled → (s.head h).active ≠ none
     (¬may → refused .wrongMode) ∧ (may → ¬set → refused .geometryUnset) ∧
       (may → set → ¬sure → refused .notReferenced) ∧ (may → set → sure → ¬some_ → refused .nothingEnabled) ∧
       (may → set → sure → some_ → ¬all → refused .recipeMissing) ∧
       (may → set → sure → some_ → all →
         op = .next (State.answered
           { s with mode := .production, tracker := { s.tracker with lead := 0 } } 0x12 .ok []))) ∧
    ∀ s : State, s.listening = true →
      (s.mode ≠ .halted → exec .clearHalt s = .next (s.answered 0x15 .wrongMode [])) ∧
        (s.mode = .halted → s.valvePower = false → exec .clearHalt s = .next (s.answered 0x15 .noValvePower [])) ∧
        (s.mode = .halted → s.valvePower = true → exec .clearHalt s =
          .next (State.answered
            { s with
              mode := .standby
              tracker := if s.tracker.status = .faulted then ⟨s.tracker.geometry, 0, 0, 0, .unreferenced⟩
                else s.tracker }
            0x15 .ok []))

/-- STOP by the mode: PRODUCTION goes to DRAINING, and on to STANDBY at once with no head in flight, where every head
goes to IDLE and the skipped bottles that were present are reported in ascending head order; CLEANING ends INCOMPLETE
in STANDBY, or HALTED if the tracker is FAULTED; STANDBY does not change; the other modes refuse it (R137, R138, R43,
R124, R142, R167). -/
def Obligations.StopByMode : Prop :=
  ∀ s : State, s.listening = true →
    (s.mode = .production → s.inFlight ≠ 0 →
        exec .stop s = .next (State.answered { s with mode := .draining } 0x13 .ok [])) ∧
      (s.mode = .production → s.inFlight = 0 →
        ∃ t : State, exec .stop s = .next (t.answered 0x13 .ok []) ∧ DrainedFrom s t) ∧
      (s.mode = .cleaning →
        ∃ t : State, exec .stop s = .next (t.answered 0x13 .ok []) ∧
          t = { s with
            heads := t.heads
            outputs := t.outputs
            inFlight := t.inFlight
            mode := if s.tracker.status = .faulted then .halted else .standby
            cleaning := { s.cleaning with phase := .idle, timer := none, result := .incomplete } } ∧
          ∀ h : HeadId, t.head h = (if s.cleaning.driven[h] then (s.head h).atRest else s.head h) ∧
            (s.cleaning.driven[h] = true → (t.output h).opened = Outputs.allOff) ∧
            (s.cleaning.driven[h] = false → t.output h = s.output h)) ∧
      (s.mode = .standby → exec .stop s = .next (s.answered 0x13 .ok [])) ∧
      ((s.mode = .draining ∨ s.mode = .halted ∨ s.mode = .calibration) →
        exec .stop s = .next (s.answered 0x13 .wrongMode []))

/-- The last head out of flight ends DRAINING, by whichever event takes it out: the expiry of its contact window, a
contact arrival without a slot, a contact loss, its snift dwell expiry, a settle expiry with a snift dwell of 0 ms, a
stuck-meter abort of a scan, or its discharge arrival on a crossing. That event's own effect comes first (its report,
its fault count, its learning step); then the mode is STANDBY, every head is in IDLE with every output closed, and the
skipped bottles that were present are reported in ascending head order (R138, R43, R124). Several heads that leave
flight in one scan or crossing: ScanMetersAndDecides and CrossingBringsEachHeadItsArrivals. That a fault verdict at a
count already held at 15 counts as an increase is the model's choice (Log 24); so is the counter of free choices,
which a crossing in DRAINING advances (DESIGN CHOICE, Log 11). -/
def Obligations.LastHeadOutEndsDraining : Prop :=
  ∀ (h : HeadId) (s : State), s.running = true → s.mode = .draining → s.inFlight = 1 →
    let x := s.head h
    let level := s.withContact h false
    let limit := s.tracker.geometry.lockoutThreshold
    let ends := fun (i : Instr) (u : State) => ∃ t : State, exec i s = .next t ∧ DrainedFrom u t
    let judged := fun (u : State) (c : FillContext) (v : Verdict) =>
      { u with
        heads := s.heads.set h (judgedHead limit v x)
        reports := s.reports.filed (storedFill s.reports h c v)
        alarms := { s.alarmsFiled 1 with headLockout := s.alarms.headLockout || judgedLock limit v x } }
    let cut := fun (u : State) (c : FillContext) (v : Verdict) =>
      { u with reports := s.reports.filed (storedFill s.reports h c v), alarms := s.alarmsFiled 1 }
    let crossed : State := { s with
      tracker := { s.tracker with count := (s.tracker.count + 1) % s.tracker.geometry.cpr }
      choices := s.choices + 1 }
    let discharged := s.tracker.status ≠ .faulted ∧ s.tracker.lead = 0 ∧
      ∀ g b, raisesAt s.tracker.geometry s.tracker.count b g = decide (g = h ∧ b = .discharge)
    (x.cycle = .waitBottle → x.timer.map Timer.kind = some .contactWindow → ends (.contactWindowExpiry h) s) ∧
      (x.cycle = .waitBottle → discharged → ends .encoderForwardStep crossed) ∧
      (x.cycle = .waitBottle → s.contact h = false → x.active = none → x.pendingSlot = none →
        ends (.contactArrival h) { s.withContact h true with
          heads := s.heads.set h { x with cycle := .skip, contactSeen := true, timer := none } }) ∧
      ∀ c : FillContext, x.fill = some c →
        let r := s.recipe c.slot
        let e : Int := (c.delivered : Int) - c.target
        let outlier := decide ((r.outlierLimit : Int) * 1000 < |e|)
        let learns := !c.flags.overrange && !c.flags.late && decide (0 < r.gain) && !outlier
        let c' : FillContext := { c with
          flags := { c.flags with learned := c.flags.learned || learns, outlier := c.flags.outlier || outlier } }
        (x.cycle.holdsFill = true → s.contact h = true →
            ends (.contactLoss h) (cut level c (if x.cycle = .snift then .shortSnift else .burst))) ∧
          (x.cycle = .snift → x.timer.map Timer.kind = some .sniftDwell →
            ends (.sniftDwellExpiry h) (judged s c (judgedVerdict r c))) ∧
          (x.cycle = .closing → x.timer.map Timer.kind = some .settle → r.sniftDwell = 0 →
            ∃ t : State, exec (.settleExpiry h) s = .next t ∧
              DrainedFrom (judged { s with
                corrections := t.corrections
                reservation := if learns = true ∧ s.reservation = some (h, c.slot) then none else s.reservation }
                c' (judgedVerdict r c)) t ∧
              ∀ g k, t.correction g k =
                if g = h ∧ k = c.slot ∧ learns = true then
                  boundedCorrection (s.correction h c.slot + Int.tdiv (e * r.gain) 16)
                else s.correction g k) ∧
          (∀ b : BankId, h.val / 16 = b.val → (∀ g, g ≠ h → (s.head g).cycle.inFlight = false) →
            s.stuckAt h = true → (s.lane h).counter = (s.lane h).lastSample → c.delivered ≤ 4294967295 →
            ∃ t : State, exec (.bankScan b) s = .next t ∧
              DrainedFrom
                { s with
                  lanes := t.lanes
                  cleaning := { s.cleaning with counters := t.cleaning.counters }
                  heads := s.heads.set h { x with
                    faults := raisedFaults x
                    enable := if lockedAt limit x then .lockedOut else x.enable }
                  reports := s.reports.filed (storedFill s.reports h c .meterStuck)
                  alarms := { s.alarmsFiled 1 with
                    headLockout := s.alarms.headLockout || lockedAt limit x } } t) ∧
          (x.cycle.holdsFill = true → discharged → ends .encoderForwardStep (cut crossed c .shortSnift))

/-- HALT, addressed or broadcast: every fill in flight is reported HALTED and every skipped bottle that was present
UNFILLED, in ascending head order with consecutive numbers; every head is in IDLE with every output closed; a
cleaning run is INCOMPLETE; a calibration ends without a report, with CU in IDLE, a run in DOSING as ABANDONED and
any other result kept (R160); the mode is HALTED; everything else stays, and the only alarm it can latch is
REPORT_OVERFLOW (R44, R122, R124, R139, R174). -/
def Obligations.HaltReportsInHeadOrder : Prop :=
  ∀ s : State, CalibrationFitsMode s → (s.mode = .calibration → HeadsLaw s) →
    (s.listening = true →
        ∃ t : State, exec (.halt false) s = .next (t.answered 0x14 .ok []) ∧ HaltedFrom s t) ∧
      (s.running = true → s.link.rx ≠ .transmitting →
        ∃ t : State, exec (.halt true) s = .next t.hunting ∧ HaltedFrom s t)

/-- ACKNOWLEDGE ALARMS refuses a mask with bit 5, 6 or 7; otherwise each named alarm is taken out of the set if its
cause is gone, any other stays, and the reply carries the set after the request (R147, R146, R178). -/
def Obligations.AcknowledgeClearsWhatIsCured : Prop :=
  ∀ (mask : Byte) (s : State), s.listening = true →
    let bad := mask.getLsbD 5 = true ∨ mask.getLsbD 6 = true ∨ mask.getLsbD 7 = true
    let locked := ∃ h, (s.head h).enable = .lockedOut
    (bad → exec (.acknowledgeAlarms mask) s = .next (s.answered 0x1E .badField [])) ∧
      (¬bad →
        ∃ a : Alarms, exec (.acknowledgeAlarms mask) s =
            .next (State.answered { s with alarms := a } 0x1E .ok (leBytes 1 a.code)) ∧
          (a.indexSlip = true ↔ s.alarms.indexSlip = true ∧ mask.getLsbD 0 = false) ∧
          (a.encoderFault = true ↔
            s.alarms.encoderFault = true ∧ (mask.getLsbD 1 = false ∨ s.tracker.status = .faulted)) ∧
          (a.valvePowerLost = true ↔
            s.alarms.valvePowerLost = true ∧ (mask.getLsbD 2 = false ∨ s.valvePower = false)) ∧
          (a.reportOverflow = true ↔ s.alarms.reportOverflow = true ∧ mask.getLsbD 3 = false) ∧
          (a.headLockout = true ↔ s.alarms.headLockout = true ∧ (mask.getLsbD 4 = false ∨ locked)))

/-- Power-on and the release of a held reset line leave the values of the chapters, with the levels then at the pins
and, for the release, the switches read then (R150 and the rules it gathers). A held line drives every terminal
UNENERGIZED, and no request is taken and no step counted (R150). The model's choices: that the assertion changes
nothing but the terminals (DESIGN CHOICE, Log 7), that bytes, scans, ticks and timers stop as well while the line
is held (DEDUCED, Log 7), that POWER_ON leaves a held line held (DESIGN CHOICE, Log 8), and that the commands that
wait stay (Log 1). -/
def Obligations.PowerOnAndResetLine : Prop :=
  (∀ (pins : PinLevels) (s : State),
      ∃ t : State, exec (.powerOn pins) s = .next t ∧
        PowerOnValues
          ⟨pins.valvePower, pins.productReady, pins.contacts, pins.switches, s.pins.resetHeld⟩ t ∧
        t.pending = s.pending) ∧
    (∀ (switches : Fin 16) (s : State), s.running = false →
      ∃ t : State, exec (.resetLineRelease switches) s = .next t ∧
        PowerOnValues { s.pins with switches := switches, resetHeld := false } t ∧ t.pending = s.pending) ∧
    (∀ s : State,
      exec .resetLineAssert s =
        .next { s with
          pins := { s.pins with resetHeld := true }
          outputs := Vector.ofFn fun h : HeadId => { s.output h with terminals := Outputs.allOff } }) ∧
    ∀ (i : Instr) (s : State), s.running = false → actsHeld i = false → exec i s = .next s

/-! ### Calibration Unit -/

/-- START CALIBRATION: WRONG_MODE outside STANDBY; BAD_FIELD, HEAD_UNCALIBRATED and RECIPE_MISSING in that order;
accepted, the record takes head and target, CU is ARMED, the mode is CALIBRATION, and the last result and every head
stay (R153).
END CALIBRATION: CAL_STATE outside CALIBRATION; accepted, a run in DOSING is cut off as ABANDONED with D as the
last scan left it and its head goes to IDLE, another result is kept; CU is IDLE with head and target none; the mode
is STANDBY, or HALTED if the tracker is FAULTED (R159). A broadcast HALT ends a calibration likewise, to HALTED and
without a report (R160); every HALT in CALIBRATION: HaltReportsInHeadOrder. -/
def Obligations.StartAndEndCalibration : Prop :=
  (∀ (head target : Nat) (s : State), s.listening = true →
     let op := exec (.startCalibration head target) s
     let refused := fun st => op = .next (s.answered 0x18 st [])
     let fits := 10000 ≤ target ∧ target ≤ 3000000
     (s.mode ≠ .standby → refused .wrongMode) ∧
       (s.mode = .standby → (63 < head ∨ ¬fits) → refused .badField) ∧
       ∀ h : HeadId, head = h.val → s.mode = .standby → fits →
         ((s.head h).factor = 0 → refused .headUncalibrated) ∧
           ((s.head h).factor ≠ 0 → (s.head h).active = none → refused .recipeMissing) ∧
           ((s.head h).factor ≠ 0 → (s.head h).active ≠ none →
             op = .next (State.answered
               { s with
                 cal := ⟨some h, some target, .armed, s.cal.last⟩
                 mode := .calibration }
               0x18 .ok []))) ∧
    ∀ s : State, s.listening = true →
      (s.mode ≠ .calibration → exec .endCalibration s = .next (s.answered 0x1A .calState [])) ∧
        (s.mode = .calibration → s.cal.state ≠ .dosing →
          exec .endCalibration s =
            .next (State.answered
              { s with
                cal := ⟨none, none, .idle, s.cal.last⟩
                mode := if s.tracker.status = .faulted then .halted else .standby }
              0x1A .ok [])) ∧
        (s.mode = .calibration → s.cal.state = .dosing →
          ∀ (h : HeadId) (c : FillContext), s.cal.head = some h → (s.head h).fill = some c →
            let last : CalResult := ⟨h, .abandoned, c.delivered / c.factor, c.delivered, none, none, none⟩
            (∃ t : State, exec .endCalibration s = .next (t.answered 0x1A .ok []) ∧ t.head h = (s.head h).atRest ∧
                (t.output h).opened = Outputs.allOff ∧
                OnlyHead h s t { s with
                  inFlight := t.inFlight
                  cal := ⟨none, none, .idle, some last⟩
                  mode := if s.tracker.status = .faulted then .halted else .standby } ∧
                ((s.head h).cycle.inFlight = true → t.inFlight = s.inFlight - 1)) ∧
              ∃ t : State, exec (.halt true) s = .next t.hunting ∧ t.head h = (s.head h).atRest ∧
                t.cal = ⟨none, none, .idle, some last⟩ ∧ t.mode = .halted ∧ t.inFlight = 0 ∧
                ((∀ g, g ≠ h → (s.head g).cycle = .idle) → t.reports = s.reports))

/-- ENTER ACTUAL VOLUME: CAL_STATE outside AWAIT_ACTUAL; there BAD_FIELD above 4,294,967 µL, CAL_IMPLAUSIBLE outside
the ±10 % window or for a new factor outside 200..65,535; otherwise the rounded quotient is the head's meter factor,
the result is FACTOR_WRITTEN with both factors, CU is ARMED, and nothing else changes (R158). -/
def Obligations.EnterActualVolumeWritesTheFactor : Prop :=
  ∀ (volume : Nat) (s : State), s.listening = true →
    let op := exec (.enterActualVolume volume) s
    ((s.mode ≠ .calibration ∨ s.cal.state ≠ .awaitActual) → op = .next (s.answered 0x19 .calState [])) ∧
      (s.mode = .calibration → s.cal.state = .awaitActual →
        (4294967 < volume → op = .next (s.answered 0x19 .badField [])) ∧
          ∀ (h : HeadId) (run : CalResult), s.cal.head = some h → s.cal.last = some run → volume ≤ 4294967 →
            let actual := volume * 1000
            let old := (s.head h).factor
            let new := (old * actual + run.measured / 2) / run.measured
            let fits := 9 * run.measured ≤ 10 * actual ∧ 10 * actual ≤ 11 * run.measured ∧ 200 ≤ new ∧ new ≤ 65535
            (¬fits → op = .next (s.answered 0x19 .calImplausible [])) ∧
              (fits → op = .next (State.answered
                { s with
                  heads := s.heads.set h { s.head h with factor := new }
                  cal := { s.cal with
                    state := .armed
                    last := some ⟨run.head, .factorWritten, run.pulses, run.measured, some actual, some old,
                      some new⟩ } }
                0x19 .ok (leBytes 2 old ++ leBytes 2 new))))

/-! ### Cleaning Sequencer -/

/-- START CLEANING: WRONG_MODE outside STANDBY, BAD_FIELD for a plan out of range, NOTHING_ENABLED without an ENABLED
head; accepted, the plan is stored, counters and marks are cleared, the ENABLED heads are the driven set and go to
CLEAN_OPEN with WIDE and NARROW open, and the mode is CLEANING (R163, R114). -/
def Obligations.StartCleaningDrivesTheEnabledHeads : Prop :=
  ∀ (openTime pauseTime cycles : Nat) (s : State), s.listening = true →
    let op := exec (.startCleaning openTime pauseTime cycles) s
    let refused := fun st => op = .next (s.answered 0x16 st [])
    let fits := 100 ≤ openTime ∧ openTime ≤ 60000 ∧ pauseTime ≤ 60000 ∧ 1 ≤ cycles ∧ cycles ≤ 255
    (s.mode ≠ .standby → refused .wrongMode) ∧ (s.mode = .standby → ¬fits → refused .badField) ∧
      (s.mode = .standby → fits → (∀ h, (s.head h).enable ≠ .enabled) → refused .nothingEnabled) ∧
      (s.mode = .standby → fits → (∃ h, (s.head h).enable = .enabled) → (∀ h, (s.head h).cycle = .idle) →
        ∃ t : State, op = .next (t.answered 0x16 .ok []) ∧
          t = { s with
            heads := t.heads
            outputs := t.outputs
            mode := .cleaning
            cleaning :=
              ⟨some ⟨openTime, pauseTime, cycles⟩, .openPhase, 1, 0,
                Vector.ofFn fun h : HeadId => decide ((s.head h).enable = .enabled), some openTime,
                Vector.replicate 64 0, Vector.replicate 64 false, .running⟩ } ∧
          ∀ h, t.head h =
              (if (s.head h).enable = .enabled then { s.head h with cycle := .cleanOpen, timer := none }
                else s.head h) ∧
            ((s.head h).enable = .enabled → (t.output h).opened = ⟨false, true, true, false⟩) ∧
            ((s.head h).enable ≠ .enabled → t.output h = s.output h))

/-- An open expiry counts the cycle done and judges the no-flow marks at the first; with a pause the driven heads close
their outputs for it, without one the cycle ends within the expiry (R164). A pause expiry begins the next cycle or
completes the plan, the driven heads in IDLE and the mode STANDBY, or HALTED if the tracker is FAULTED (R165). -/
def Obligations.CleaningPhasesFollowThePlan : Prop :=
  ∀ (s : State) (plan : CleaningPlan), s.running = true → s.mode = .cleaning → s.cleaning.plan = some plan →
    let marks : Vector Bool 64 := Vector.ofFn fun h : HeadId =>
      s.cleaning.noFlow[h] || (s.cleaning.driven[h] && decide (s.cleaning.counters[h] = 0))
    let counted := { s.cleaning with
      cyclesDone := s.cleaning.cyclesDone + 1
      noFlow := if s.cleaning.cyclesDone = 0 then marks else s.cleaning.noFlow }
    let framed := fun t : State =>
      (∀ h : HeadId, s.cleaning.driven[h] = false → t.head h = s.head h ∧ t.output h = s.output h) ∧
        t = { s with
          heads := t.heads
          outputs := t.outputs
          inFlight := t.inFlight
          mode := t.mode
          cleaning := t.cleaning }
    let driven := fun (t : State) (c : CycleState) (o : Outputs) =>
      ∀ h : HeadId,
        t.head h = (if s.cleaning.driven[h] then { s.head h with cycle := c, timer := none } else s.head h) ∧
          (s.cleaning.driven[h] = true → (t.output h).opened = o)
    let again := fun (t : State) (cl : Cleaning) =>
      t.cleaning = { cl with cycle := cl.cycle + 1, phase := .openPhase, timer := some plan.openTime } ∧
        t.mode = .cleaning ∧ driven t .cleanOpen ⟨false, true, true, false⟩
    let finished := fun (t : State) (cl : Cleaning) =>
      t.cleaning = { cl with phase := .idle, timer := none, result := .complete } ∧
        t.mode = (if s.tracker.status = .faulted then .halted else .standby) ∧
        ∀ h : HeadId, t.head h = (if s.cleaning.driven[h] then (s.head h).atRest else s.head h) ∧
          (s.cleaning.driven[h] = true → (t.output h).opened = Outputs.allOff)
    (s.cleaning.phase = .openPhase →
        ∃ t : State, exec .openPhaseExpiry s = .next t ∧ framed t ∧
          (plan.pauseTime ≠ 0 →
            t.cleaning = { counted with phase := .pausePhase, timer := some plan.pauseTime } ∧
              t.mode = .cleaning ∧ driven t .cleanPause Outputs.allOff) ∧
          (plan.pauseTime = 0 → s.cleaning.cycle < plan.cycles → again t counted) ∧
          (plan.pauseTime = 0 → plan.cycles ≤ s.cleaning.cycle → finished t counted)) ∧
      (s.cleaning.phase = .pausePhase →
        ∃ t : State, exec .pausePhaseExpiry s = .next t ∧ framed t ∧
          (s.cleaning.cycle < plan.cycles → again t s.cleaning) ∧
          (plan.cycles ≤ s.cleaning.cycle → finished t s.cleaning))

/-- READ CLEANING VOLUMES changes nothing and answers the 280 bytes of the cleaning record, each counter in mL as
floor(counter / 1,000,000), held at 4,294,967,295, and the result by its code of R178 (R168, R181). -/
def Obligations.ReadCleaningVolumesAnswersTheRecord : Prop :=
  ∀ s : State, s.listening = true →
    ∃ p : List Byte, exec .readCleaningVolumes s = .next (s.answered 0x17 .ok p) ∧ p.length = 280 ∧
      fieldAt p 0 1 = (match s.cleaning.result with
        | .none => 0
        | .running => 1
        | .complete => 2
        | .incomplete => 3) ∧
      (s.cleaning.plan = none → fieldAt p 1 5 = 0) ∧
      (∀ plan, s.cleaning.plan = some plan → plan.openTime ≤ 60000 → plan.pauseTime ≤ 60000 → plan.cycles ≤ 255 →
        fieldAt p 1 2 = plan.openTime ∧ fieldAt p 3 2 = plan.pauseTime ∧ fieldAt p 5 1 = plan.cycles) ∧
      (s.cleaning.cycle ≤ 255 → fieldAt p 6 1 = s.cleaning.cycle) ∧
      (s.cleaning.cyclesDone ≤ 255 → fieldAt p 7 1 = s.cleaning.cyclesDone) ∧
      ∀ h : HeadId, (fieldAt p 8 8).testBit h.val = s.cleaning.driven[h] ∧
        (fieldAt p 16 8).testBit h.val = s.cleaning.noFlow[h] ∧
        fieldAt p (24 + 4 * h.val) 4 =
          (if 4294967295 < s.cleaning.counters[h] / 1000000 then 4294967295
            else s.cleaning.counters[h] / 1000000)

/-! ### Invariants -/

/-- Every step keeps the law of the report queue: at most 256 records, and of two adjacent records the later one's
sequence is the earlier one's plus one plus the later one's lost before (R121, R122, R125). -/
def Obligations.StepKeepsTheQueueLaw : Prop :=
  ∀ s t : State, QueueLaw s → step s = .next t → QueueLaw t

/-- Every step keeps every correction within its bounds and the reservation on a LOADED slot (R70, R76). -/
def Obligations.StepKeepsTheCorrectionTableLaw : Prop :=
  ∀ s t : State, CorrectionTableLaw s → step s = .next t → CorrectionTableLaw t

/-- Every step keeps every meter factor 0 or in 200..65,535, and not 0 at an ENABLED or LOCKED_OUT head (R17). -/
def Obligations.StepKeepsTheMeterFactorLaw : Prop :=
  ∀ s t : State, MeterFactorLaw s → step s = .next t → MeterFactorLaw t

/-- Every step keeps CS running exactly in CLEANING and CU off IDLE exactly in CALIBRATION, the live inputs recorded,
and valve power present in every mode other than HALTED (R111, R140, R152, R162). -/
def Obligations.StepKeepsServiceAndPowerLaw : Prop :=
  ∀ s t : State, ServiceAndPowerLaw s → step s = .next t → ServiceAndPowerLaw t

/-- Every step keeps the encoder count below CPR, the other counts in range, and the tracker REFERENCED in PRODUCTION
and DRAINING (R4, R7, R9, R12).
Every step keeps the stored recipes, the near-full threshold, the profile lags and the fault counts in their
ranges (R17, R85, R104, R127). -/
def Obligations.StepKeepsTrackerAndSettingsLaws : Prop :=
  (∀ s t : State, TrackerLaw s → step s = .next t → TrackerLaw t) ∧
    ∀ s t : State, StoredSettingsLaw s → step s = .next t → StoredSettingsLaw t

/-- Every step keeps the interlocks of the outputs and the rule of the terminal levels (R107, R109, R111). -/
def Obligations.StepKeepsTheValveLaw : Prop :=
  ∀ s t : State, ValveLaw s → step s = .next t → ValveLaw t

/-- Every step keeps the in-flight, binding and pending-changeover counts equal to what the heads show, a head's
pending slot apart from its active one, and every bound slot LOADED (R42, R92, R93). -/
def Obligations.StepKeepsTheCountsLaw : Prop :=
  ∀ s t : State, CountsLaw s → step s = .next t → CountsLaw t

/-- Every step keeps every head in a state its mode allows, with the fill context, timer and open set of its state
(R22, R107, R135). -/
def Obligations.StepKeepsTheHeadsLaw : Prop :=
  ∀ s t : State, HeadsLaw s → step s = .next t → HeadsLaw t

/-- Every step keeps each fill on its head's active slot, which stays LOADED, with its flow estimate within ceiling
times factor, and keeps 0 in every entry of an EMPTY slot (R56, R70, R92, R99). -/
def Obligations.StepKeepsTheFillsLaw : Prop :=
  ∀ s t : State, FillsLaw s → step s = .next t → FillsLaw t

/-- All the invariants hold right after power-on, whatever the levels at the pins (the reset rules of the chapters). -/
def Obligations.InvariantsHoldAfterPowerOn : Prop :=
  ∀ pins : Pins,
    let s := State.powerOn pins
    QueueLaw s ∧ CorrectionTableLaw s ∧ MeterFactorLaw s ∧ ServiceAndPowerLaw s ∧ TrackerLaw s ∧
      StoredSettingsLaw s ∧ ValveLaw s ∧ CountsLaw s ∧ HeadsLaw s ∧ FillsLaw s ∧
      State.reset = State.powerOn Pins.reset
end

