-- ==== Sys2Proof/Laws/State.lean ====
section
/-! SUPPORT. The fields of the state after each update that is one record update: what the update leaves is the
field before, what it writes is the value written. All hold by unfolding. -/

namespace Sys2Proof.Machine

section
variable (s : State) (h : HeadId) (x : Head)

@[simp] theorem State.putHead_tracker : (s.putHead h x).tracker = s.tracker := rfl
@[simp] theorem State.putHead_heads : (s.putHead h x).heads = s.heads.set h x := rfl
@[simp] theorem State.putHead_inFlight : (s.putHead h x).inFlight = s.inFlight := rfl
@[simp] theorem State.putHead_clock : (s.putHead h x).clock = s.clock := rfl
@[simp] theorem State.putHead_lanes : (s.putHead h x).lanes = s.lanes := rfl
@[simp] theorem State.putHead_corrections : (s.putHead h x).corrections = s.corrections := rfl
@[simp] theorem State.putHead_reservation : (s.putHead h x).reservation = s.reservation := rfl
@[simp] theorem State.putHead_slots : (s.putHead h x).slots = s.slots := rfl
@[simp] theorem State.putHead_pendingChangeovers : (s.putHead h x).pendingChangeovers = s.pendingChangeovers := rfl
@[simp] theorem State.putHead_profiles : (s.putHead h x).profiles = s.profiles := rfl
@[simp] theorem State.putHead_outputs : (s.putHead h x).outputs = s.outputs := rfl
@[simp] theorem State.putHead_drive : (s.putHead h x).drive = s.drive := rfl
@[simp] theorem State.putHead_reports : (s.putHead h x).reports = s.reports := rfl
@[simp] theorem State.putHead_mode : (s.putHead h x).mode = s.mode := rfl
@[simp] theorem State.putHead_alarms : (s.putHead h x).alarms = s.alarms := rfl
@[simp] theorem State.putHead_valvePower : (s.putHead h x).valvePower = s.valvePower := rfl
@[simp] theorem State.putHead_productReady : (s.putHead h x).productReady = s.productReady := rfl
@[simp] theorem State.putHead_cal : (s.putHead h x).cal = s.cal := rfl
@[simp] theorem State.putHead_cleaning : (s.putHead h x).cleaning = s.cleaning := rfl
@[simp] theorem State.putHead_link : (s.putHead h x).link = s.link := rfl
@[simp] theorem State.putHead_pins : (s.putHead h x).pins = s.pins := rfl
@[simp] theorem State.putHead_choices : (s.putHead h x).choices = s.choices := rfl
@[simp] theorem State.putHead_pending : (s.putHead h x).pending = s.pending := rfl

end

section
variable (s : State) (h : HeadId) (f : Head → Head)

@[simp] theorem State.updHead_tracker : (s.updHead h f).tracker = s.tracker := rfl
@[simp] theorem State.updHead_heads : (s.updHead h f).heads = s.heads.set h (f (s.head h)) := rfl
@[simp] theorem State.updHead_inFlight : (s.updHead h f).inFlight = s.inFlight := rfl
@[simp] theorem State.updHead_clock : (s.updHead h f).clock = s.clock := rfl
@[simp] theorem State.updHead_lanes : (s.updHead h f).lanes = s.lanes := rfl
@[simp] theorem State.updHead_corrections : (s.updHead h f).corrections = s.corrections := rfl
@[simp] theorem State.updHead_reservation : (s.updHead h f).reservation = s.reservation := rfl
@[simp] theorem State.updHead_slots : (s.updHead h f).slots = s.slots := rfl
@[simp] theorem State.updHead_pendingChangeovers : (s.updHead h f).pendingChangeovers = s.pendingChangeovers := rfl
@[simp] theorem State.updHead_profiles : (s.updHead h f).profiles = s.profiles := rfl
@[simp] theorem State.updHead_outputs : (s.updHead h f).outputs = s.outputs := rfl
@[simp] theorem State.updHead_drive : (s.updHead h f).drive = s.drive := rfl
@[simp] theorem State.updHead_reports : (s.updHead h f).reports = s.reports := rfl
@[simp] theorem State.updHead_mode : (s.updHead h f).mode = s.mode := rfl
@[simp] theorem State.updHead_alarms : (s.updHead h f).alarms = s.alarms := rfl
@[simp] theorem State.updHead_valvePower : (s.updHead h f).valvePower = s.valvePower := rfl
@[simp] theorem State.updHead_productReady : (s.updHead h f).productReady = s.productReady := rfl
@[simp] theorem State.updHead_cal : (s.updHead h f).cal = s.cal := rfl
@[simp] theorem State.updHead_cleaning : (s.updHead h f).cleaning = s.cleaning := rfl
@[simp] theorem State.updHead_link : (s.updHead h f).link = s.link := rfl
@[simp] theorem State.updHead_pins : (s.updHead h f).pins = s.pins := rfl
@[simp] theorem State.updHead_choices : (s.updHead h f).choices = s.choices := rfl
@[simp] theorem State.updHead_pending : (s.updHead h f).pending = s.pending := rfl

end

section
variable (s : State) (h : HeadId) (x : HeadOutputs)

@[simp] theorem State.putOutput_tracker : (s.putOutput h x).tracker = s.tracker := rfl
@[simp] theorem State.putOutput_heads : (s.putOutput h x).heads = s.heads := rfl
@[simp] theorem State.putOutput_inFlight : (s.putOutput h x).inFlight = s.inFlight := rfl
@[simp] theorem State.putOutput_clock : (s.putOutput h x).clock = s.clock := rfl
@[simp] theorem State.putOutput_lanes : (s.putOutput h x).lanes = s.lanes := rfl
@[simp] theorem State.putOutput_corrections : (s.putOutput h x).corrections = s.corrections := rfl
@[simp] theorem State.putOutput_reservation : (s.putOutput h x).reservation = s.reservation := rfl
@[simp] theorem State.putOutput_slots : (s.putOutput h x).slots = s.slots := rfl
@[simp] theorem State.putOutput_pendingChangeovers : (s.putOutput h x).pendingChangeovers = s.pendingChangeovers := rfl
@[simp] theorem State.putOutput_profiles : (s.putOutput h x).profiles = s.profiles := rfl
@[simp] theorem State.putOutput_outputs : (s.putOutput h x).outputs = s.outputs.set h x := rfl
@[simp] theorem State.putOutput_drive : (s.putOutput h x).drive = s.drive := rfl
@[simp] theorem State.putOutput_reports : (s.putOutput h x).reports = s.reports := rfl
@[simp] theorem State.putOutput_mode : (s.putOutput h x).mode = s.mode := rfl
@[simp] theorem State.putOutput_alarms : (s.putOutput h x).alarms = s.alarms := rfl
@[simp] theorem State.putOutput_valvePower : (s.putOutput h x).valvePower = s.valvePower := rfl
@[simp] theorem State.putOutput_productReady : (s.putOutput h x).productReady = s.productReady := rfl
@[simp] theorem State.putOutput_cal : (s.putOutput h x).cal = s.cal := rfl
@[simp] theorem State.putOutput_cleaning : (s.putOutput h x).cleaning = s.cleaning := rfl
@[simp] theorem State.putOutput_link : (s.putOutput h x).link = s.link := rfl
@[simp] theorem State.putOutput_pins : (s.putOutput h x).pins = s.pins := rfl
@[simp] theorem State.putOutput_choices : (s.putOutput h x).choices = s.choices := rfl
@[simp] theorem State.putOutput_pending : (s.putOutput h x).pending = s.pending := rfl

end

section
variable (s : State) (k : SlotId) (x : Slot)

@[simp] theorem State.putSlot_tracker : (s.putSlot k x).tracker = s.tracker := rfl
@[simp] theorem State.putSlot_heads : (s.putSlot k x).heads = s.heads := rfl
@[simp] theorem State.putSlot_inFlight : (s.putSlot k x).inFlight = s.inFlight := rfl
@[simp] theorem State.putSlot_clock : (s.putSlot k x).clock = s.clock := rfl
@[simp] theorem State.putSlot_lanes : (s.putSlot k x).lanes = s.lanes := rfl
@[simp] theorem State.putSlot_corrections : (s.putSlot k x).corrections = s.corrections := rfl
@[simp] theorem State.putSlot_reservation : (s.putSlot k x).reservation = s.reservation := rfl
@[simp] theorem State.putSlot_slots : (s.putSlot k x).slots = s.slots.set k x := rfl
@[simp] theorem State.putSlot_pendingChangeovers : (s.putSlot k x).pendingChangeovers = s.pendingChangeovers := rfl
@[simp] theorem State.putSlot_profiles : (s.putSlot k x).profiles = s.profiles := rfl
@[simp] theorem State.putSlot_outputs : (s.putSlot k x).outputs = s.outputs := rfl
@[simp] theorem State.putSlot_drive : (s.putSlot k x).drive = s.drive := rfl
@[simp] theorem State.putSlot_reports : (s.putSlot k x).reports = s.reports := rfl
@[simp] theorem State.putSlot_mode : (s.putSlot k x).mode = s.mode := rfl
@[simp] theorem State.putSlot_alarms : (s.putSlot k x).alarms = s.alarms := rfl
@[simp] theorem State.putSlot_valvePower : (s.putSlot k x).valvePower = s.valvePower := rfl
@[simp] theorem State.putSlot_productReady : (s.putSlot k x).productReady = s.productReady := rfl
@[simp] theorem State.putSlot_cal : (s.putSlot k x).cal = s.cal := rfl
@[simp] theorem State.putSlot_cleaning : (s.putSlot k x).cleaning = s.cleaning := rfl
@[simp] theorem State.putSlot_link : (s.putSlot k x).link = s.link := rfl
@[simp] theorem State.putSlot_pins : (s.putSlot k x).pins = s.pins := rfl
@[simp] theorem State.putSlot_choices : (s.putSlot k x).choices = s.choices := rfl
@[simp] theorem State.putSlot_pending : (s.putSlot k x).pending = s.pending := rfl

end

section
variable (s : State) (k : SlotId) (col : Vector Int 64)

@[simp] theorem State.putColumn_tracker : (s.putColumn k col).tracker = s.tracker := rfl
@[simp] theorem State.putColumn_heads : (s.putColumn k col).heads = s.heads := rfl
@[simp] theorem State.putColumn_inFlight : (s.putColumn k col).inFlight = s.inFlight := rfl
@[simp] theorem State.putColumn_clock : (s.putColumn k col).clock = s.clock := rfl
@[simp] theorem State.putColumn_lanes : (s.putColumn k col).lanes = s.lanes := rfl
@[simp] theorem State.putColumn_corrections : (s.putColumn k col).corrections = s.corrections.set k col := rfl
@[simp] theorem State.putColumn_reservation : (s.putColumn k col).reservation = s.reservation := rfl
@[simp] theorem State.putColumn_slots : (s.putColumn k col).slots = s.slots := rfl
@[simp] theorem State.putColumn_pendingChangeovers : (s.putColumn k col).pendingChangeovers = s.pendingChangeovers := rfl
@[simp] theorem State.putColumn_profiles : (s.putColumn k col).profiles = s.profiles := rfl
@[simp] theorem State.putColumn_outputs : (s.putColumn k col).outputs = s.outputs := rfl
@[simp] theorem State.putColumn_drive : (s.putColumn k col).drive = s.drive := rfl
@[simp] theorem State.putColumn_reports : (s.putColumn k col).reports = s.reports := rfl
@[simp] theorem State.putColumn_mode : (s.putColumn k col).mode = s.mode := rfl
@[simp] theorem State.putColumn_alarms : (s.putColumn k col).alarms = s.alarms := rfl
@[simp] theorem State.putColumn_valvePower : (s.putColumn k col).valvePower = s.valvePower := rfl
@[simp] theorem State.putColumn_productReady : (s.putColumn k col).productReady = s.productReady := rfl
@[simp] theorem State.putColumn_cal : (s.putColumn k col).cal = s.cal := rfl
@[simp] theorem State.putColumn_cleaning : (s.putColumn k col).cleaning = s.cleaning := rfl
@[simp] theorem State.putColumn_link : (s.putColumn k col).link = s.link := rfl
@[simp] theorem State.putColumn_pins : (s.putColumn k col).pins = s.pins := rfl
@[simp] theorem State.putColumn_choices : (s.putColumn k col).choices = s.choices := rfl
@[simp] theorem State.putColumn_pending : (s.putColumn k col).pending = s.pending := rfl

end

section
variable (s : State) (h : HeadId) (k : SlotId) (v : Int)

@[simp] theorem State.putCorrection_tracker : (s.putCorrection h k v).tracker = s.tracker := rfl
@[simp] theorem State.putCorrection_heads : (s.putCorrection h k v).heads = s.heads := rfl
@[simp] theorem State.putCorrection_inFlight : (s.putCorrection h k v).inFlight = s.inFlight := rfl
@[simp] theorem State.putCorrection_clock : (s.putCorrection h k v).clock = s.clock := rfl
@[simp] theorem State.putCorrection_lanes : (s.putCorrection h k v).lanes = s.lanes := rfl
@[simp] theorem State.putCorrection_corrections : (s.putCorrection h k v).corrections = s.corrections.set k ((s.corrections[k]).set h (clampCorrection v)) := rfl
@[simp] theorem State.putCorrection_reservation : (s.putCorrection h k v).reservation = s.reservation := rfl
@[simp] theorem State.putCorrection_slots : (s.putCorrection h k v).slots = s.slots := rfl
@[simp] theorem State.putCorrection_pendingChangeovers : (s.putCorrection h k v).pendingChangeovers = s.pendingChangeovers := rfl
@[simp] theorem State.putCorrection_profiles : (s.putCorrection h k v).profiles = s.profiles := rfl
@[simp] theorem State.putCorrection_outputs : (s.putCorrection h k v).outputs = s.outputs := rfl
@[simp] theorem State.putCorrection_drive : (s.putCorrection h k v).drive = s.drive := rfl
@[simp] theorem State.putCorrection_reports : (s.putCorrection h k v).reports = s.reports := rfl
@[simp] theorem State.putCorrection_mode : (s.putCorrection h k v).mode = s.mode := rfl
@[simp] theorem State.putCorrection_alarms : (s.putCorrection h k v).alarms = s.alarms := rfl
@[simp] theorem State.putCorrection_valvePower : (s.putCorrection h k v).valvePower = s.valvePower := rfl
@[simp] theorem State.putCorrection_productReady : (s.putCorrection h k v).productReady = s.productReady := rfl
@[simp] theorem State.putCorrection_cal : (s.putCorrection h k v).cal = s.cal := rfl
@[simp] theorem State.putCorrection_cleaning : (s.putCorrection h k v).cleaning = s.cleaning := rfl
@[simp] theorem State.putCorrection_link : (s.putCorrection h k v).link = s.link := rfl
@[simp] theorem State.putCorrection_pins : (s.putCorrection h k v).pins = s.pins := rfl
@[simp] theorem State.putCorrection_choices : (s.putCorrection h k v).choices = s.choices := rfl
@[simp] theorem State.putCorrection_pending : (s.putCorrection h k v).pending = s.pending := rfl

end

section
variable (s : State) (h : HeadId) (v : Bool)

@[simp] theorem State.putContact_tracker : (s.putContact h v).tracker = s.tracker := rfl
@[simp] theorem State.putContact_heads : (s.putContact h v).heads = s.heads := rfl
@[simp] theorem State.putContact_inFlight : (s.putContact h v).inFlight = s.inFlight := rfl
@[simp] theorem State.putContact_clock : (s.putContact h v).clock = s.clock := rfl
@[simp] theorem State.putContact_lanes : (s.putContact h v).lanes = s.lanes := rfl
@[simp] theorem State.putContact_corrections : (s.putContact h v).corrections = s.corrections := rfl
@[simp] theorem State.putContact_reservation : (s.putContact h v).reservation = s.reservation := rfl
@[simp] theorem State.putContact_slots : (s.putContact h v).slots = s.slots := rfl
@[simp] theorem State.putContact_pendingChangeovers : (s.putContact h v).pendingChangeovers = s.pendingChangeovers := rfl
@[simp] theorem State.putContact_profiles : (s.putContact h v).profiles = s.profiles := rfl
@[simp] theorem State.putContact_outputs : (s.putContact h v).outputs = s.outputs := rfl
@[simp] theorem State.putContact_drive : (s.putContact h v).drive = s.drive := rfl
@[simp] theorem State.putContact_reports : (s.putContact h v).reports = s.reports := rfl
@[simp] theorem State.putContact_mode : (s.putContact h v).mode = s.mode := rfl
@[simp] theorem State.putContact_alarms : (s.putContact h v).alarms = s.alarms := rfl
@[simp] theorem State.putContact_valvePower : (s.putContact h v).valvePower = s.valvePower := rfl
@[simp] theorem State.putContact_productReady : (s.putContact h v).productReady = s.productReady := rfl
@[simp] theorem State.putContact_cal : (s.putContact h v).cal = s.cal := rfl
@[simp] theorem State.putContact_cleaning : (s.putContact h v).cleaning = s.cleaning := rfl
@[simp] theorem State.putContact_link : (s.putContact h v).link = s.link := rfl
@[simp] theorem State.putContact_pins : (s.putContact h v).pins = { s.pins with contacts := s.pins.contacts.set h v } := rfl
@[simp] theorem State.putContact_choices : (s.putContact h v).choices = s.choices := rfl
@[simp] theorem State.putContact_pending : (s.putContact h v).pending = s.pending := rfl

end

section
variable (s : State) (v : Bool)

@[simp] theorem State.putSense_tracker : (s.putSense v).tracker = s.tracker := rfl
@[simp] theorem State.putSense_heads : (s.putSense v).heads = s.heads := rfl
@[simp] theorem State.putSense_inFlight : (s.putSense v).inFlight = s.inFlight := rfl
@[simp] theorem State.putSense_clock : (s.putSense v).clock = s.clock := rfl
@[simp] theorem State.putSense_lanes : (s.putSense v).lanes = s.lanes := rfl
@[simp] theorem State.putSense_corrections : (s.putSense v).corrections = s.corrections := rfl
@[simp] theorem State.putSense_reservation : (s.putSense v).reservation = s.reservation := rfl
@[simp] theorem State.putSense_slots : (s.putSense v).slots = s.slots := rfl
@[simp] theorem State.putSense_pendingChangeovers : (s.putSense v).pendingChangeovers = s.pendingChangeovers := rfl
@[simp] theorem State.putSense_profiles : (s.putSense v).profiles = s.profiles := rfl
@[simp] theorem State.putSense_outputs : (s.putSense v).outputs = s.outputs := rfl
@[simp] theorem State.putSense_drive : (s.putSense v).drive = s.drive := rfl
@[simp] theorem State.putSense_reports : (s.putSense v).reports = s.reports := rfl
@[simp] theorem State.putSense_mode : (s.putSense v).mode = s.mode := rfl
@[simp] theorem State.putSense_alarms : (s.putSense v).alarms = s.alarms := rfl
@[simp] theorem State.putSense_valvePower : (s.putSense v).valvePower = s.valvePower := rfl
@[simp] theorem State.putSense_productReady : (s.putSense v).productReady = s.productReady := rfl
@[simp] theorem State.putSense_cal : (s.putSense v).cal = s.cal := rfl
@[simp] theorem State.putSense_cleaning : (s.putSense v).cleaning = s.cleaning := rfl
@[simp] theorem State.putSense_link : (s.putSense v).link = s.link := rfl
@[simp] theorem State.putSense_pins : (s.putSense v).pins = { s.pins with valvePower := v } := rfl
@[simp] theorem State.putSense_choices : (s.putSense v).choices = s.choices := rfl
@[simp] theorem State.putSense_pending : (s.putSense v).pending = s.pending := rfl

end

section
variable (s : State) (m : Mode)

@[simp] theorem State.setMode_tracker : (s.setMode m).tracker = s.tracker := rfl
@[simp] theorem State.setMode_heads : (s.setMode m).heads = s.heads := rfl
@[simp] theorem State.setMode_inFlight : (s.setMode m).inFlight = s.inFlight := rfl
@[simp] theorem State.setMode_clock : (s.setMode m).clock = s.clock := rfl
@[simp] theorem State.setMode_lanes : (s.setMode m).lanes = s.lanes := rfl
@[simp] theorem State.setMode_corrections : (s.setMode m).corrections = s.corrections := rfl
@[simp] theorem State.setMode_reservation : (s.setMode m).reservation = s.reservation := rfl
@[simp] theorem State.setMode_slots : (s.setMode m).slots = s.slots := rfl
@[simp] theorem State.setMode_pendingChangeovers : (s.setMode m).pendingChangeovers = s.pendingChangeovers := rfl
@[simp] theorem State.setMode_profiles : (s.setMode m).profiles = s.profiles := rfl
@[simp] theorem State.setMode_outputs : (s.setMode m).outputs = s.outputs := rfl
@[simp] theorem State.setMode_drive : (s.setMode m).drive = s.drive := rfl
@[simp] theorem State.setMode_reports : (s.setMode m).reports = s.reports := rfl
@[simp] theorem State.setMode_mode : (s.setMode m).mode = m := rfl
@[simp] theorem State.setMode_alarms : (s.setMode m).alarms = s.alarms := rfl
@[simp] theorem State.setMode_valvePower : (s.setMode m).valvePower = s.valvePower := rfl
@[simp] theorem State.setMode_productReady : (s.setMode m).productReady = s.productReady := rfl
@[simp] theorem State.setMode_cal : (s.setMode m).cal = s.cal := rfl
@[simp] theorem State.setMode_cleaning : (s.setMode m).cleaning = s.cleaning := rfl
@[simp] theorem State.setMode_link : (s.setMode m).link = s.link := rfl
@[simp] theorem State.setMode_pins : (s.setMode m).pins = s.pins := rfl
@[simp] theorem State.setMode_choices : (s.setMode m).choices = s.choices := rfl
@[simp] theorem State.setMode_pending : (s.setMode m).pending = s.pending := rfl

end

section
variable (s : State) (x : Alarm)

@[simp] theorem State.raise_tracker : (s.raise x).tracker = s.tracker := rfl
@[simp] theorem State.raise_heads : (s.raise x).heads = s.heads := rfl
@[simp] theorem State.raise_inFlight : (s.raise x).inFlight = s.inFlight := rfl
@[simp] theorem State.raise_clock : (s.raise x).clock = s.clock := rfl
@[simp] theorem State.raise_lanes : (s.raise x).lanes = s.lanes := rfl
@[simp] theorem State.raise_corrections : (s.raise x).corrections = s.corrections := rfl
@[simp] theorem State.raise_reservation : (s.raise x).reservation = s.reservation := rfl
@[simp] theorem State.raise_slots : (s.raise x).slots = s.slots := rfl
@[simp] theorem State.raise_pendingChangeovers : (s.raise x).pendingChangeovers = s.pendingChangeovers := rfl
@[simp] theorem State.raise_profiles : (s.raise x).profiles = s.profiles := rfl
@[simp] theorem State.raise_outputs : (s.raise x).outputs = s.outputs := rfl
@[simp] theorem State.raise_drive : (s.raise x).drive = s.drive := rfl
@[simp] theorem State.raise_reports : (s.raise x).reports = s.reports := rfl
@[simp] theorem State.raise_mode : (s.raise x).mode = s.mode := rfl
@[simp] theorem State.raise_alarms : (s.raise x).alarms = s.alarms.set x true := rfl
@[simp] theorem State.raise_valvePower : (s.raise x).valvePower = s.valvePower := rfl
@[simp] theorem State.raise_productReady : (s.raise x).productReady = s.productReady := rfl
@[simp] theorem State.raise_cal : (s.raise x).cal = s.cal := rfl
@[simp] theorem State.raise_cleaning : (s.raise x).cleaning = s.cleaning := rfl
@[simp] theorem State.raise_link : (s.raise x).link = s.link := rfl
@[simp] theorem State.raise_pins : (s.raise x).pins = s.pins := rfl
@[simp] theorem State.raise_choices : (s.raise x).choices = s.choices := rfl
@[simp] theorem State.raise_pending : (s.raise x).pending = s.pending := rfl

end

section
variable (s : State)

@[simp] theorem State.toHunt_tracker : (s.toHunt).tracker = s.tracker := rfl
@[simp] theorem State.toHunt_heads : (s.toHunt).heads = s.heads := rfl
@[simp] theorem State.toHunt_inFlight : (s.toHunt).inFlight = s.inFlight := rfl
@[simp] theorem State.toHunt_clock : (s.toHunt).clock = s.clock := rfl
@[simp] theorem State.toHunt_lanes : (s.toHunt).lanes = s.lanes := rfl
@[simp] theorem State.toHunt_corrections : (s.toHunt).corrections = s.corrections := rfl
@[simp] theorem State.toHunt_reservation : (s.toHunt).reservation = s.reservation := rfl
@[simp] theorem State.toHunt_slots : (s.toHunt).slots = s.slots := rfl
@[simp] theorem State.toHunt_pendingChangeovers : (s.toHunt).pendingChangeovers = s.pendingChangeovers := rfl
@[simp] theorem State.toHunt_profiles : (s.toHunt).profiles = s.profiles := rfl
@[simp] theorem State.toHunt_outputs : (s.toHunt).outputs = s.outputs := rfl
@[simp] theorem State.toHunt_drive : (s.toHunt).drive = s.drive := rfl
@[simp] theorem State.toHunt_reports : (s.toHunt).reports = s.reports := rfl
@[simp] theorem State.toHunt_mode : (s.toHunt).mode = s.mode := rfl
@[simp] theorem State.toHunt_alarms : (s.toHunt).alarms = s.alarms := rfl
@[simp] theorem State.toHunt_valvePower : (s.toHunt).valvePower = s.valvePower := rfl
@[simp] theorem State.toHunt_productReady : (s.toHunt).productReady = s.productReady := rfl
@[simp] theorem State.toHunt_cal : (s.toHunt).cal = s.cal := rfl
@[simp] theorem State.toHunt_cleaning : (s.toHunt).cleaning = s.cleaning := rfl
@[simp] theorem State.toHunt_link : (s.toHunt).link = s.link.toHunt := rfl
@[simp] theorem State.toHunt_pins : (s.toHunt).pins = s.pins := rfl
@[simp] theorem State.toHunt_choices : (s.toHunt).choices = s.choices := rfl
@[simp] theorem State.toHunt_pending : (s.toHunt).pending = s.pending := rfl

end

section
variable (s : State) (h : HeadId)

@[simp] theorem State.deriveOutputs_tracker : (s.deriveOutputs h).tracker = s.tracker := rfl
@[simp] theorem State.deriveOutputs_heads : (s.deriveOutputs h).heads = s.heads := rfl
@[simp] theorem State.deriveOutputs_inFlight : (s.deriveOutputs h).inFlight = s.inFlight := rfl
@[simp] theorem State.deriveOutputs_clock : (s.deriveOutputs h).clock = s.clock := rfl
@[simp] theorem State.deriveOutputs_lanes : (s.deriveOutputs h).lanes = s.lanes := rfl
@[simp] theorem State.deriveOutputs_corrections : (s.deriveOutputs h).corrections = s.corrections := rfl
@[simp] theorem State.deriveOutputs_reservation : (s.deriveOutputs h).reservation = s.reservation := rfl
@[simp] theorem State.deriveOutputs_slots : (s.deriveOutputs h).slots = s.slots := rfl
@[simp] theorem State.deriveOutputs_pendingChangeovers : (s.deriveOutputs h).pendingChangeovers = s.pendingChangeovers := rfl
@[simp] theorem State.deriveOutputs_profiles : (s.deriveOutputs h).profiles = s.profiles := rfl
@[simp] theorem State.deriveOutputs_outputs : (s.deriveOutputs h).outputs = s.outputs.set h (derived s.drive (s.profileOf h) (s.head h) (s.output h)) := rfl
@[simp] theorem State.deriveOutputs_drive : (s.deriveOutputs h).drive = s.drive := rfl
@[simp] theorem State.deriveOutputs_reports : (s.deriveOutputs h).reports = s.reports := rfl
@[simp] theorem State.deriveOutputs_mode : (s.deriveOutputs h).mode = s.mode := rfl
@[simp] theorem State.deriveOutputs_alarms : (s.deriveOutputs h).alarms = s.alarms := rfl
@[simp] theorem State.deriveOutputs_valvePower : (s.deriveOutputs h).valvePower = s.valvePower := rfl
@[simp] theorem State.deriveOutputs_productReady : (s.deriveOutputs h).productReady = s.productReady := rfl
@[simp] theorem State.deriveOutputs_cal : (s.deriveOutputs h).cal = s.cal := rfl
@[simp] theorem State.deriveOutputs_cleaning : (s.deriveOutputs h).cleaning = s.cleaning := rfl
@[simp] theorem State.deriveOutputs_link : (s.deriveOutputs h).link = s.link := rfl
@[simp] theorem State.deriveOutputs_pins : (s.deriveOutputs h).pins = s.pins := rfl
@[simp] theorem State.deriveOutputs_choices : (s.deriveOutputs h).choices = s.choices := rfl
@[simp] theorem State.deriveOutputs_pending : (s.deriveOutputs h).pending = s.pending := rfl

end

section
variable (s : State) (h : HeadId) (v : Bool)

@[simp] theorem State.setVent_tracker : (s.setVent h v).tracker = s.tracker := rfl
@[simp] theorem State.setVent_heads : (s.setVent h v).heads = s.heads := rfl
@[simp] theorem State.setVent_inFlight : (s.setVent h v).inFlight = s.inFlight := rfl
@[simp] theorem State.setVent_clock : (s.setVent h v).clock = s.clock := rfl
@[simp] theorem State.setVent_lanes : (s.setVent h v).lanes = s.lanes := rfl
@[simp] theorem State.setVent_corrections : (s.setVent h v).corrections = s.corrections := rfl
@[simp] theorem State.setVent_reservation : (s.setVent h v).reservation = s.reservation := rfl
@[simp] theorem State.setVent_slots : (s.setVent h v).slots = s.slots := rfl
@[simp] theorem State.setVent_pendingChangeovers : (s.setVent h v).pendingChangeovers = s.pendingChangeovers := rfl
@[simp] theorem State.setVent_profiles : (s.setVent h v).profiles = s.profiles := rfl
@[simp] theorem State.setVent_drive : (s.setVent h v).drive = s.drive := rfl
@[simp] theorem State.setVent_reports : (s.setVent h v).reports = s.reports := rfl
@[simp] theorem State.setVent_mode : (s.setVent h v).mode = s.mode := rfl
@[simp] theorem State.setVent_alarms : (s.setVent h v).alarms = s.alarms := rfl
@[simp] theorem State.setVent_valvePower : (s.setVent h v).valvePower = s.valvePower := rfl
@[simp] theorem State.setVent_productReady : (s.setVent h v).productReady = s.productReady := rfl
@[simp] theorem State.setVent_cal : (s.setVent h v).cal = s.cal := rfl
@[simp] theorem State.setVent_cleaning : (s.setVent h v).cleaning = s.cleaning := rfl
@[simp] theorem State.setVent_link : (s.setVent h v).link = s.link := rfl
@[simp] theorem State.setVent_pins : (s.setVent h v).pins = s.pins := rfl
@[simp] theorem State.setVent_choices : (s.setVent h v).choices = s.choices := rfl
@[simp] theorem State.setVent_pending : (s.setVent h v).pending = s.pending := rfl

end

section
variable (s : State) (h : HeadId)

@[simp] theorem State.deriveTerminals_tracker : (s.deriveTerminals h).tracker = s.tracker := rfl
@[simp] theorem State.deriveTerminals_heads : (s.deriveTerminals h).heads = s.heads := rfl
@[simp] theorem State.deriveTerminals_inFlight : (s.deriveTerminals h).inFlight = s.inFlight := rfl
@[simp] theorem State.deriveTerminals_clock : (s.deriveTerminals h).clock = s.clock := rfl
@[simp] theorem State.deriveTerminals_lanes : (s.deriveTerminals h).lanes = s.lanes := rfl
@[simp] theorem State.deriveTerminals_corrections : (s.deriveTerminals h).corrections = s.corrections := rfl
@[simp] theorem State.deriveTerminals_reservation : (s.deriveTerminals h).reservation = s.reservation := rfl
@[simp] theorem State.deriveTerminals_slots : (s.deriveTerminals h).slots = s.slots := rfl
@[simp] theorem State.deriveTerminals_pendingChangeovers : (s.deriveTerminals h).pendingChangeovers = s.pendingChangeovers := rfl
@[simp] theorem State.deriveTerminals_profiles : (s.deriveTerminals h).profiles = s.profiles := rfl
@[simp] theorem State.deriveTerminals_drive : (s.deriveTerminals h).drive = s.drive := rfl
@[simp] theorem State.deriveTerminals_reports : (s.deriveTerminals h).reports = s.reports := rfl
@[simp] theorem State.deriveTerminals_mode : (s.deriveTerminals h).mode = s.mode := rfl
@[simp] theorem State.deriveTerminals_alarms : (s.deriveTerminals h).alarms = s.alarms := rfl
@[simp] theorem State.deriveTerminals_valvePower : (s.deriveTerminals h).valvePower = s.valvePower := rfl
@[simp] theorem State.deriveTerminals_productReady : (s.deriveTerminals h).productReady = s.productReady := rfl
@[simp] theorem State.deriveTerminals_cal : (s.deriveTerminals h).cal = s.cal := rfl
@[simp] theorem State.deriveTerminals_cleaning : (s.deriveTerminals h).cleaning = s.cleaning := rfl
@[simp] theorem State.deriveTerminals_link : (s.deriveTerminals h).link = s.link := rfl
@[simp] theorem State.deriveTerminals_pins : (s.deriveTerminals h).pins = s.pins := rfl
@[simp] theorem State.deriveTerminals_choices : (s.deriveTerminals h).choices = s.choices := rfl
@[simp] theorem State.deriveTerminals_pending : (s.deriveTerminals h).pending = s.pending := rfl

end

section
variable (s : State) (p : Head → Bool)

@[simp] theorem State.deriveTerminalsWhere_tracker : (s.deriveTerminalsWhere p).tracker = s.tracker := by simp only [State.deriveTerminalsWhere]
@[simp] theorem State.deriveTerminalsWhere_heads : (s.deriveTerminalsWhere p).heads = s.heads := by simp only [State.deriveTerminalsWhere]
@[simp] theorem State.deriveTerminalsWhere_inFlight : (s.deriveTerminalsWhere p).inFlight = s.inFlight := by simp only [State.deriveTerminalsWhere]
@[simp] theorem State.deriveTerminalsWhere_clock : (s.deriveTerminalsWhere p).clock = s.clock := by simp only [State.deriveTerminalsWhere]
@[simp] theorem State.deriveTerminalsWhere_lanes : (s.deriveTerminalsWhere p).lanes = s.lanes := by simp only [State.deriveTerminalsWhere]
@[simp] theorem State.deriveTerminalsWhere_corrections : (s.deriveTerminalsWhere p).corrections = s.corrections := by simp only [State.deriveTerminalsWhere]
@[simp] theorem State.deriveTerminalsWhere_reservation : (s.deriveTerminalsWhere p).reservation = s.reservation := by simp only [State.deriveTerminalsWhere]
@[simp] theorem State.deriveTerminalsWhere_slots : (s.deriveTerminalsWhere p).slots = s.slots := by simp only [State.deriveTerminalsWhere]
@[simp] theorem State.deriveTerminalsWhere_pendingChangeovers : (s.deriveTerminalsWhere p).pendingChangeovers = s.pendingChangeovers := by simp only [State.deriveTerminalsWhere]
@[simp] theorem State.deriveTerminalsWhere_profiles : (s.deriveTerminalsWhere p).profiles = s.profiles := by simp only [State.deriveTerminalsWhere]
@[simp] theorem State.deriveTerminalsWhere_drive : (s.deriveTerminalsWhere p).drive = s.drive := by simp only [State.deriveTerminalsWhere]
@[simp] theorem State.deriveTerminalsWhere_reports : (s.deriveTerminalsWhere p).reports = s.reports := by simp only [State.deriveTerminalsWhere]
@[simp] theorem State.deriveTerminalsWhere_mode : (s.deriveTerminalsWhere p).mode = s.mode := by simp only [State.deriveTerminalsWhere]
@[simp] theorem State.deriveTerminalsWhere_alarms : (s.deriveTerminalsWhere p).alarms = s.alarms := by simp only [State.deriveTerminalsWhere]
@[simp] theorem State.deriveTerminalsWhere_valvePower : (s.deriveTerminalsWhere p).valvePower = s.valvePower := by simp only [State.deriveTerminalsWhere]
@[simp] theorem State.deriveTerminalsWhere_productReady : (s.deriveTerminalsWhere p).productReady = s.productReady := by simp only [State.deriveTerminalsWhere]
@[simp] theorem State.deriveTerminalsWhere_cal : (s.deriveTerminalsWhere p).cal = s.cal := by simp only [State.deriveTerminalsWhere]
@[simp] theorem State.deriveTerminalsWhere_cleaning : (s.deriveTerminalsWhere p).cleaning = s.cleaning := by simp only [State.deriveTerminalsWhere]
@[simp] theorem State.deriveTerminalsWhere_link : (s.deriveTerminalsWhere p).link = s.link := by simp only [State.deriveTerminalsWhere]
@[simp] theorem State.deriveTerminalsWhere_pins : (s.deriveTerminalsWhere p).pins = s.pins := by simp only [State.deriveTerminalsWhere]
@[simp] theorem State.deriveTerminalsWhere_choices : (s.deriveTerminalsWhere p).choices = s.choices := by simp only [State.deriveTerminalsWhere]
@[simp] theorem State.deriveTerminalsWhere_pending : (s.deriveTerminalsWhere p).pending = s.pending := by simp only [State.deriveTerminalsWhere]

end

section
variable (s : State)

@[simp] theorem State.dropTerminals_tracker : (s.dropTerminals).tracker = s.tracker := by simp only [State.dropTerminals]
@[simp] theorem State.dropTerminals_heads : (s.dropTerminals).heads = s.heads := by simp only [State.dropTerminals]
@[simp] theorem State.dropTerminals_inFlight : (s.dropTerminals).inFlight = s.inFlight := by simp only [State.dropTerminals]
@[simp] theorem State.dropTerminals_clock : (s.dropTerminals).clock = s.clock := by simp only [State.dropTerminals]
@[simp] theorem State.dropTerminals_lanes : (s.dropTerminals).lanes = s.lanes := by simp only [State.dropTerminals]
@[simp] theorem State.dropTerminals_corrections : (s.dropTerminals).corrections = s.corrections := by simp only [State.dropTerminals]
@[simp] theorem State.dropTerminals_reservation : (s.dropTerminals).reservation = s.reservation := by simp only [State.dropTerminals]
@[simp] theorem State.dropTerminals_slots : (s.dropTerminals).slots = s.slots := by simp only [State.dropTerminals]
@[simp] theorem State.dropTerminals_pendingChangeovers : (s.dropTerminals).pendingChangeovers = s.pendingChangeovers := by simp only [State.dropTerminals]
@[simp] theorem State.dropTerminals_profiles : (s.dropTerminals).profiles = s.profiles := by simp only [State.dropTerminals]
@[simp] theorem State.dropTerminals_drive : (s.dropTerminals).drive = s.drive := by simp only [State.dropTerminals]
@[simp] theorem State.dropTerminals_reports : (s.dropTerminals).reports = s.reports := by simp only [State.dropTerminals]
@[simp] theorem State.dropTerminals_mode : (s.dropTerminals).mode = s.mode := by simp only [State.dropTerminals]
@[simp] theorem State.dropTerminals_alarms : (s.dropTerminals).alarms = s.alarms := by simp only [State.dropTerminals]
@[simp] theorem State.dropTerminals_valvePower : (s.dropTerminals).valvePower = s.valvePower := by simp only [State.dropTerminals]
@[simp] theorem State.dropTerminals_productReady : (s.dropTerminals).productReady = s.productReady := by simp only [State.dropTerminals]
@[simp] theorem State.dropTerminals_cal : (s.dropTerminals).cal = s.cal := by simp only [State.dropTerminals]
@[simp] theorem State.dropTerminals_cleaning : (s.dropTerminals).cleaning = s.cleaning := by simp only [State.dropTerminals]
@[simp] theorem State.dropTerminals_link : (s.dropTerminals).link = s.link := by simp only [State.dropTerminals]
@[simp] theorem State.dropTerminals_pins : (s.dropTerminals).pins = s.pins := by simp only [State.dropTerminals]
@[simp] theorem State.dropTerminals_choices : (s.dropTerminals).choices = s.choices := by simp only [State.dropTerminals]
@[simp] theorem State.dropTerminals_pending : (s.dropTerminals).pending = s.pending := by simp only [State.dropTerminals]

end

section
variable (s : State) (h : HeadId) (a p : Option SlotId)

@[simp] theorem State.assignSlots_tracker : (s.assignSlots h a p).tracker = s.tracker := by simp only [State.assignSlots, State.putHead]
@[simp] theorem State.assignSlots_heads : (s.assignSlots h a p).heads = s.heads.set h { s.head h with active := a, pendingSlot := p } := by simp only [State.assignSlots, State.putHead]
@[simp] theorem State.assignSlots_inFlight : (s.assignSlots h a p).inFlight = s.inFlight := by simp only [State.assignSlots, State.putHead]
@[simp] theorem State.assignSlots_clock : (s.assignSlots h a p).clock = s.clock := by simp only [State.assignSlots, State.putHead]
@[simp] theorem State.assignSlots_lanes : (s.assignSlots h a p).lanes = s.lanes := by simp only [State.assignSlots, State.putHead]
@[simp] theorem State.assignSlots_corrections : (s.assignSlots h a p).corrections = s.corrections := by simp only [State.assignSlots, State.putHead]
@[simp] theorem State.assignSlots_reservation : (s.assignSlots h a p).reservation = s.reservation := by simp only [State.assignSlots, State.putHead]
@[simp] theorem State.assignSlots_profiles : (s.assignSlots h a p).profiles = s.profiles := by simp only [State.assignSlots, State.putHead]
@[simp] theorem State.assignSlots_outputs : (s.assignSlots h a p).outputs = s.outputs := by simp only [State.assignSlots, State.putHead]
@[simp] theorem State.assignSlots_drive : (s.assignSlots h a p).drive = s.drive := by simp only [State.assignSlots, State.putHead]
@[simp] theorem State.assignSlots_reports : (s.assignSlots h a p).reports = s.reports := by simp only [State.assignSlots, State.putHead]
@[simp] theorem State.assignSlots_mode : (s.assignSlots h a p).mode = s.mode := by simp only [State.assignSlots, State.putHead]
@[simp] theorem State.assignSlots_alarms : (s.assignSlots h a p).alarms = s.alarms := by simp only [State.assignSlots, State.putHead]
@[simp] theorem State.assignSlots_valvePower : (s.assignSlots h a p).valvePower = s.valvePower := by simp only [State.assignSlots, State.putHead]
@[simp] theorem State.assignSlots_productReady : (s.assignSlots h a p).productReady = s.productReady := by simp only [State.assignSlots, State.putHead]
@[simp] theorem State.assignSlots_cal : (s.assignSlots h a p).cal = s.cal := by simp only [State.assignSlots, State.putHead]
@[simp] theorem State.assignSlots_cleaning : (s.assignSlots h a p).cleaning = s.cleaning := by simp only [State.assignSlots, State.putHead]
@[simp] theorem State.assignSlots_link : (s.assignSlots h a p).link = s.link := by simp only [State.assignSlots, State.putHead]
@[simp] theorem State.assignSlots_pins : (s.assignSlots h a p).pins = s.pins := by simp only [State.assignSlots, State.putHead]
@[simp] theorem State.assignSlots_choices : (s.assignSlots h a p).choices = s.choices := by simp only [State.assignSlots, State.putHead]
@[simp] theorem State.assignSlots_pending : (s.assignSlots h a p).pending = s.pending := by simp only [State.assignSlots, State.putHead]

end

section
variable (s : State) (h : HeadId) (c : CycleState) (t : Option Timer)

@[simp] theorem State.enter_tracker : (s.enter h c t).tracker = s.tracker := rfl
@[simp] theorem State.enter_heads : (s.enter h c t).heads = s.heads.set h { s.head h with cycle := c, timer := t } := rfl
@[simp] theorem State.enter_inFlight : (s.enter h c t).inFlight = s.inFlight + one c.inFlight - one (s.head h).cycle.inFlight := rfl
@[simp] theorem State.enter_clock : (s.enter h c t).clock = s.clock := rfl
@[simp] theorem State.enter_lanes : (s.enter h c t).lanes = s.lanes := rfl
@[simp] theorem State.enter_corrections : (s.enter h c t).corrections = s.corrections := rfl
@[simp] theorem State.enter_reservation : (s.enter h c t).reservation = s.reservation := rfl
@[simp] theorem State.enter_slots : (s.enter h c t).slots = s.slots := rfl
@[simp] theorem State.enter_pendingChangeovers : (s.enter h c t).pendingChangeovers = s.pendingChangeovers := rfl
@[simp] theorem State.enter_profiles : (s.enter h c t).profiles = s.profiles := rfl
@[simp] theorem State.enter_drive : (s.enter h c t).drive = s.drive := rfl
@[simp] theorem State.enter_reports : (s.enter h c t).reports = s.reports := rfl
@[simp] theorem State.enter_mode : (s.enter h c t).mode = s.mode := rfl
@[simp] theorem State.enter_alarms : (s.enter h c t).alarms = s.alarms := rfl
@[simp] theorem State.enter_valvePower : (s.enter h c t).valvePower = s.valvePower := rfl
@[simp] theorem State.enter_productReady : (s.enter h c t).productReady = s.productReady := rfl
@[simp] theorem State.enter_cal : (s.enter h c t).cal = s.cal := rfl
@[simp] theorem State.enter_cleaning : (s.enter h c t).cleaning = s.cleaning := rfl
@[simp] theorem State.enter_link : (s.enter h c t).link = s.link := rfl
@[simp] theorem State.enter_pins : (s.enter h c t).pins = s.pins := rfl
@[simp] theorem State.enter_choices : (s.enter h c t).choices = s.choices := rfl
@[simp] theorem State.enter_pending : (s.enter h c t).pending = s.pending := rfl

end

section
variable (s : State) (h : HeadId)

@[simp] theorem State.goIdle_tracker : (s.goIdle h).tracker = s.tracker := by
  simp only [State.goIdle, State.enter_tracker, State.putOutput_tracker, State.updHead_tracker]
@[simp] theorem State.goIdle_clock : (s.goIdle h).clock = s.clock := by
  simp only [State.goIdle, State.enter_clock, State.putOutput_clock, State.updHead_clock]
@[simp] theorem State.goIdle_lanes : (s.goIdle h).lanes = s.lanes := by
  simp only [State.goIdle, State.enter_lanes, State.putOutput_lanes, State.updHead_lanes]
@[simp] theorem State.goIdle_corrections : (s.goIdle h).corrections = s.corrections := by
  simp only [State.goIdle, State.enter_corrections, State.putOutput_corrections, State.updHead_corrections]
@[simp] theorem State.goIdle_reservation : (s.goIdle h).reservation = s.reservation := by
  simp only [State.goIdle, State.enter_reservation, State.putOutput_reservation, State.updHead_reservation]
@[simp] theorem State.goIdle_slots : (s.goIdle h).slots = s.slots := by
  simp only [State.goIdle, State.enter_slots, State.putOutput_slots, State.updHead_slots]
@[simp] theorem State.goIdle_pendingChangeovers : (s.goIdle h).pendingChangeovers = s.pendingChangeovers := by
  simp only [State.goIdle, State.enter_pendingChangeovers, State.putOutput_pendingChangeovers, State.updHead_pendingChangeovers]
@[simp] theorem State.goIdle_profiles : (s.goIdle h).profiles = s.profiles := by
  simp only [State.goIdle, State.enter_profiles, State.putOutput_profiles, State.updHead_profiles]
@[simp] theorem State.goIdle_drive : (s.goIdle h).drive = s.drive := by
  simp only [State.goIdle, State.enter_drive, State.putOutput_drive, State.updHead_drive]
@[simp] theorem State.goIdle_reports : (s.goIdle h).reports = s.reports := by
  simp only [State.goIdle, State.enter_reports, State.putOutput_reports, State.updHead_reports]
@[simp] theorem State.goIdle_mode : (s.goIdle h).mode = s.mode := by
  simp only [State.goIdle, State.enter_mode, State.putOutput_mode, State.updHead_mode]
@[simp] theorem State.goIdle_alarms : (s.goIdle h).alarms = s.alarms := by
  simp only [State.goIdle, State.enter_alarms, State.putOutput_alarms, State.updHead_alarms]
@[simp] theorem State.goIdle_valvePower : (s.goIdle h).valvePower = s.valvePower := by
  simp only [State.goIdle, State.enter_valvePower, State.putOutput_valvePower, State.updHead_valvePower]
@[simp] theorem State.goIdle_productReady : (s.goIdle h).productReady = s.productReady := by
  simp only [State.goIdle, State.enter_productReady, State.putOutput_productReady, State.updHead_productReady]
@[simp] theorem State.goIdle_cal : (s.goIdle h).cal = s.cal := by
  simp only [State.goIdle, State.enter_cal, State.putOutput_cal, State.updHead_cal]
@[simp] theorem State.goIdle_cleaning : (s.goIdle h).cleaning = s.cleaning := by
  simp only [State.goIdle, State.enter_cleaning, State.putOutput_cleaning, State.updHead_cleaning]
@[simp] theorem State.goIdle_link : (s.goIdle h).link = s.link := by
  simp only [State.goIdle, State.enter_link, State.putOutput_link, State.updHead_link]
@[simp] theorem State.goIdle_pins : (s.goIdle h).pins = s.pins := by
  simp only [State.goIdle, State.enter_pins, State.putOutput_pins, State.updHead_pins]
@[simp] theorem State.goIdle_choices : (s.goIdle h).choices = s.choices := by
  simp only [State.goIdle, State.enter_choices, State.putOutput_choices, State.updHead_choices]
@[simp] theorem State.goIdle_pending : (s.goIdle h).pending = s.pending := by
  simp only [State.goIdle, State.enter_pending, State.putOutput_pending, State.updHead_pending]

end

section
variable (s : State)

@[simp] theorem State.clearHeads_tracker : (s.clearHeads).tracker = s.tracker := by simp only [State.clearHeads]
@[simp] theorem State.clearHeads_inFlight : (s.clearHeads).inFlight = 0 := by simp only [State.clearHeads]
@[simp] theorem State.clearHeads_clock : (s.clearHeads).clock = s.clock := by simp only [State.clearHeads]
@[simp] theorem State.clearHeads_lanes : (s.clearHeads).lanes = s.lanes := by simp only [State.clearHeads]
@[simp] theorem State.clearHeads_corrections : (s.clearHeads).corrections = s.corrections := by simp only [State.clearHeads]
@[simp] theorem State.clearHeads_reservation : (s.clearHeads).reservation = s.reservation := by simp only [State.clearHeads]
@[simp] theorem State.clearHeads_slots : (s.clearHeads).slots = s.slots := by simp only [State.clearHeads]
@[simp] theorem State.clearHeads_pendingChangeovers : (s.clearHeads).pendingChangeovers = s.pendingChangeovers := by simp only [State.clearHeads]
@[simp] theorem State.clearHeads_profiles : (s.clearHeads).profiles = s.profiles := by simp only [State.clearHeads]
@[simp] theorem State.clearHeads_drive : (s.clearHeads).drive = s.drive := by simp only [State.clearHeads]
@[simp] theorem State.clearHeads_reports : (s.clearHeads).reports = s.reports := by simp only [State.clearHeads]
@[simp] theorem State.clearHeads_mode : (s.clearHeads).mode = s.mode := by simp only [State.clearHeads]
@[simp] theorem State.clearHeads_alarms : (s.clearHeads).alarms = s.alarms := by simp only [State.clearHeads]
@[simp] theorem State.clearHeads_valvePower : (s.clearHeads).valvePower = s.valvePower := by simp only [State.clearHeads]
@[simp] theorem State.clearHeads_productReady : (s.clearHeads).productReady = s.productReady := by simp only [State.clearHeads]
@[simp] theorem State.clearHeads_cal : (s.clearHeads).cal = s.cal := by simp only [State.clearHeads]
@[simp] theorem State.clearHeads_cleaning : (s.clearHeads).cleaning = s.cleaning := by simp only [State.clearHeads]
@[simp] theorem State.clearHeads_link : (s.clearHeads).link = s.link := by simp only [State.clearHeads]
@[simp] theorem State.clearHeads_pins : (s.clearHeads).pins = s.pins := by simp only [State.clearHeads]
@[simp] theorem State.clearHeads_choices : (s.clearHeads).choices = s.choices := by simp only [State.clearHeads]
@[simp] theorem State.clearHeads_pending : (s.clearHeads).pending = s.pending := by simp only [State.clearHeads]

end

section
variable (s : State) (m : HeadMask) (f : Head → Head)

@[simp] theorem State.setEnable_tracker : (s.setEnable m f).tracker = s.tracker := by simp only [State.setEnable]
@[simp] theorem State.setEnable_inFlight : (s.setEnable m f).inFlight = s.inFlight := by simp only [State.setEnable]
@[simp] theorem State.setEnable_clock : (s.setEnable m f).clock = s.clock := by simp only [State.setEnable]
@[simp] theorem State.setEnable_lanes : (s.setEnable m f).lanes = s.lanes := by simp only [State.setEnable]
@[simp] theorem State.setEnable_corrections : (s.setEnable m f).corrections = s.corrections := by simp only [State.setEnable]
@[simp] theorem State.setEnable_reservation : (s.setEnable m f).reservation = s.reservation := by simp only [State.setEnable]
@[simp] theorem State.setEnable_slots : (s.setEnable m f).slots = s.slots := by simp only [State.setEnable]
@[simp] theorem State.setEnable_pendingChangeovers : (s.setEnable m f).pendingChangeovers = s.pendingChangeovers := by simp only [State.setEnable]
@[simp] theorem State.setEnable_profiles : (s.setEnable m f).profiles = s.profiles := by simp only [State.setEnable]
@[simp] theorem State.setEnable_outputs : (s.setEnable m f).outputs = s.outputs := by simp only [State.setEnable]
@[simp] theorem State.setEnable_drive : (s.setEnable m f).drive = s.drive := by simp only [State.setEnable]
@[simp] theorem State.setEnable_reports : (s.setEnable m f).reports = s.reports := by simp only [State.setEnable]
@[simp] theorem State.setEnable_mode : (s.setEnable m f).mode = s.mode := by simp only [State.setEnable]
@[simp] theorem State.setEnable_alarms : (s.setEnable m f).alarms = s.alarms := by simp only [State.setEnable]
@[simp] theorem State.setEnable_valvePower : (s.setEnable m f).valvePower = s.valvePower := by simp only [State.setEnable]
@[simp] theorem State.setEnable_productReady : (s.setEnable m f).productReady = s.productReady := by simp only [State.setEnable]
@[simp] theorem State.setEnable_cal : (s.setEnable m f).cal = s.cal := by simp only [State.setEnable]
@[simp] theorem State.setEnable_cleaning : (s.setEnable m f).cleaning = s.cleaning := by simp only [State.setEnable]
@[simp] theorem State.setEnable_link : (s.setEnable m f).link = s.link := by simp only [State.setEnable]
@[simp] theorem State.setEnable_pins : (s.setEnable m f).pins = s.pins := by simp only [State.setEnable]
@[simp] theorem State.setEnable_choices : (s.setEnable m f).choices = s.choices := by simp only [State.setEnable]
@[simp] theorem State.setEnable_pending : (s.setEnable m f).pending = s.pending := by simp only [State.setEnable]

end

section
variable (s : State) (b : BankId)

@[simp] theorem State.scanLanes_tracker : (s.scanLanes b).tracker = s.tracker := by simp only [State.scanLanes]
@[simp] theorem State.scanLanes_inFlight : (s.scanLanes b).inFlight = s.inFlight := by simp only [State.scanLanes]
@[simp] theorem State.scanLanes_clock : (s.scanLanes b).clock = s.clock := by simp only [State.scanLanes]
@[simp] theorem State.scanLanes_corrections : (s.scanLanes b).corrections = s.corrections := by simp only [State.scanLanes]
@[simp] theorem State.scanLanes_reservation : (s.scanLanes b).reservation = s.reservation := by simp only [State.scanLanes]
@[simp] theorem State.scanLanes_slots : (s.scanLanes b).slots = s.slots := by simp only [State.scanLanes]
@[simp] theorem State.scanLanes_pendingChangeovers : (s.scanLanes b).pendingChangeovers = s.pendingChangeovers := by simp only [State.scanLanes]
@[simp] theorem State.scanLanes_profiles : (s.scanLanes b).profiles = s.profiles := by simp only [State.scanLanes]
@[simp] theorem State.scanLanes_outputs : (s.scanLanes b).outputs = s.outputs := by simp only [State.scanLanes]
@[simp] theorem State.scanLanes_drive : (s.scanLanes b).drive = s.drive := by simp only [State.scanLanes]
@[simp] theorem State.scanLanes_reports : (s.scanLanes b).reports = s.reports := by simp only [State.scanLanes]
@[simp] theorem State.scanLanes_mode : (s.scanLanes b).mode = s.mode := by simp only [State.scanLanes]
@[simp] theorem State.scanLanes_alarms : (s.scanLanes b).alarms = s.alarms := by simp only [State.scanLanes]
@[simp] theorem State.scanLanes_valvePower : (s.scanLanes b).valvePower = s.valvePower := by simp only [State.scanLanes]
@[simp] theorem State.scanLanes_productReady : (s.scanLanes b).productReady = s.productReady := by simp only [State.scanLanes]
@[simp] theorem State.scanLanes_cal : (s.scanLanes b).cal = s.cal := by simp only [State.scanLanes]
@[simp] theorem State.scanLanes_link : (s.scanLanes b).link = s.link := by simp only [State.scanLanes]
@[simp] theorem State.scanLanes_pins : (s.scanLanes b).pins = s.pins := by simp only [State.scanLanes]
@[simp] theorem State.scanLanes_choices : (s.scanLanes b).choices = s.choices := by simp only [State.scanLanes]
@[simp] theorem State.scanLanes_pending : (s.scanLanes b).pending = s.pending := by simp only [State.scanLanes]

end

section
variable (code : Nat) (r : State × Answer)

@[simp] theorem reply_tracker : (reply code r).tracker = r.1.tracker := rfl
@[simp] theorem reply_heads : (reply code r).heads = r.1.heads := rfl
@[simp] theorem reply_inFlight : (reply code r).inFlight = r.1.inFlight := rfl
@[simp] theorem reply_clock : (reply code r).clock = r.1.clock := rfl
@[simp] theorem reply_lanes : (reply code r).lanes = r.1.lanes := rfl
@[simp] theorem reply_corrections : (reply code r).corrections = r.1.corrections := rfl
@[simp] theorem reply_reservation : (reply code r).reservation = r.1.reservation := rfl
@[simp] theorem reply_slots : (reply code r).slots = r.1.slots := rfl
@[simp] theorem reply_pendingChangeovers : (reply code r).pendingChangeovers = r.1.pendingChangeovers := rfl
@[simp] theorem reply_profiles : (reply code r).profiles = r.1.profiles := rfl
@[simp] theorem reply_outputs : (reply code r).outputs = r.1.outputs := rfl
@[simp] theorem reply_drive : (reply code r).drive = r.1.drive := rfl
@[simp] theorem reply_reports : (reply code r).reports = r.1.reports := rfl
@[simp] theorem reply_mode : (reply code r).mode = r.1.mode := rfl
@[simp] theorem reply_alarms : (reply code r).alarms = r.1.alarms := rfl
@[simp] theorem reply_valvePower : (reply code r).valvePower = r.1.valvePower := rfl
@[simp] theorem reply_productReady : (reply code r).productReady = r.1.productReady := rfl
@[simp] theorem reply_cal : (reply code r).cal = r.1.cal := rfl
@[simp] theorem reply_cleaning : (reply code r).cleaning = r.1.cleaning := rfl
@[simp] theorem reply_pins : (reply code r).pins = r.1.pins := rfl
@[simp] theorem reply_choices : (reply code r).choices = r.1.choices := rfl
@[simp] theorem reply_pending : (reply code r).pending = r.1.pending := rfl

end

end Sys2Proof.Machine
end

