-- ==== Sys2Proof/Laws/Tables.lean ====
section
/-! SUPPORT. Reading the tables of the state after each shared operation: the entry of a head or slot that an
operation names, and every other entry. -/

namespace Sys2Proof.Machine

theorem vector_set_get {α : Type} {n : Nat} (v : Vector α n) (i j : Fin n) (x : α) :
    (v.set i x)[j] = if j = i then x else v[j] := by
  by_cases h : j = i
  · subst h; simp
  · have : i.val ≠ j.val := fun e => h (Fin.ext e.symm)
    simp [h, this]

theorem vector_ofFn_get {α : Type} {n : Nat} (f : Fin n → α) (i : Fin n) : (Vector.ofFn f)[i] = f i := by simp

theorem vector_ext_fin {α : Type} {n : Nat} {v w : Vector α n} (h : ∀ i : Fin n, v[i] = w[i]) : v = w := by
  ext i hi; exact h ⟨i, hi⟩

@[simp] theorem mem_allHeads (h : HeadId) : h ∈ allHeads := List.mem_finRange h

theorem nodup_allHeads : allHeads.Nodup := List.nodup_finRange 64

/-! ### One head -/

theorem State.head_of_heads (s : State) (v : Vector Head 64) (h : HeadId) : State.head { s with heads := v } h = v[h] := rfl

theorem State.heads_ext {s t : State} (h : ∀ g, t.head g = s.head g) : t.heads = s.heads := vector_ext_fin h

theorem State.outputs_ext {s t : State} (h : ∀ g, t.output g = s.output g) : t.outputs = s.outputs :=
  vector_ext_fin h

@[simp] theorem State.head_putHead (s : State) (h g : HeadId) (x : Head) :
    (s.putHead h x).head g = if g = h then x else s.head g := vector_set_get _ _ _ _

@[simp] theorem State.head_updHead (s : State) (h g : HeadId) (f : Head → Head) :
    (s.updHead h f).head g = if g = h then f (s.head h) else s.head g := vector_set_get _ _ _ _

@[simp] theorem State.head_putOutput (s : State) (h g : HeadId) (x : HeadOutputs) :
    (s.putOutput h x).head g = s.head g := rfl

@[simp] theorem State.head_putContact (s : State) (h g : HeadId) (b : Bool) : (s.putContact h b).head g = s.head g := rfl

@[simp] theorem State.head_putSense (s : State) (g : HeadId) (b : Bool) : (s.putSense b).head g = s.head g := rfl

@[simp] theorem State.head_putSlot (s : State) (k : SlotId) (x : Slot) (g : HeadId) :
    (s.putSlot k x).head g = s.head g := rfl

@[simp] theorem State.head_putColumn (s : State) (k : SlotId) (x : Vector Int 64) (g : HeadId) :
    (s.putColumn k x).head g = s.head g := rfl

@[simp] theorem State.head_putCorrection (s : State) (h : HeadId) (k : SlotId) (x : Int) (g : HeadId) :
    (s.putCorrection h k x).head g = s.head g := rfl

@[simp] theorem State.head_setMode (s : State) (m : Mode) (g : HeadId) : (s.setMode m).head g = s.head g := rfl

@[simp] theorem State.head_raise (s : State) (a : Alarm) (g : HeadId) : (s.raise a).head g = s.head g := rfl

@[simp] theorem State.head_toHunt (s : State) (g : HeadId) : s.toHunt.head g = s.head g := rfl

@[simp] theorem State.head_deriveOutputs (s : State) (h g : HeadId) : (s.deriveOutputs h).head g = s.head g := rfl

@[simp] theorem State.head_setVent (s : State) (h g : HeadId) (v : Bool) : (s.setVent h v).head g = s.head g := rfl

@[simp] theorem State.head_deriveTerminals (s : State) (h g : HeadId) : (s.deriveTerminals h).head g = s.head g := rfl

@[simp] theorem State.head_assignSlots (s : State) (h g : HeadId) (a p : Option SlotId) :
    (s.assignSlots h a p).head g =
      if g = h then { s.head h with active := a, pendingSlot := p } else s.head g := by
  show (s.assignSlots h a p).heads[g] = _
  rw [State.assignSlots_heads]; exact vector_set_get _ _ _ _

@[simp] theorem State.head_enter (s : State) (h g : HeadId) (c : CycleState) (t : Option Timer) :
    (s.enter h c t).head g = if g = h then { s.head h with cycle := c, timer := t } else s.head g :=
  vector_set_get _ _ _ _

@[simp] theorem State.head_goIdle (s : State) (h g : HeadId) :
    (s.goIdle h).head g = if g = h then (s.head h).cleared else s.head g := by
  unfold State.goIdle; rw [State.head_enter]
  by_cases e : g = h
  · subst e; simp [Head.cleared]
  · simp [e]

@[simp] theorem State.head_clearHeads (s : State) (g : HeadId) : s.clearHeads.head g = (s.head g).cleared :=
  vector_ofFn_get _ _

@[simp] theorem State.head_setEnable (s : State) (m : HeadMask) (f : Head → Head) (g : HeadId) :
    (s.setEnable m f).head g = if inMask m g then f (s.head g) else s.head g := vector_ofFn_get _ _

/-! ### Outputs -/

theorem openNew_closeOld (old new : Outputs) : openNew (closeOld old new) new = new := by
  rcases old with ⟨a, b, c, d⟩; rcases new with ⟨a', b', c', d'⟩
  simp [openNew, closeOld]

/-- A derivation leaves exactly the open set of R107, whatever was open before, and its terminal levels (R109). -/
theorem derived_eq (d : DriveState) (p : ValveProfile) (x : Head) (o : HeadOutputs) :
    derived d p x o =
      ⟨openSet x.cycle o.vent p.fastDrive, o.vent, terminalsOf d p (openSet x.cycle o.vent p.fastDrive)⟩ := by
  unfold derived; simp only [openNew_closeOld]

@[simp] theorem State.output_putOutput (s : State) (h g : HeadId) (x : HeadOutputs) :
    (s.putOutput h x).output g = if g = h then x else s.output g := vector_set_get _ _ _ _

@[simp] theorem State.output_putHead (s : State) (h g : HeadId) (x : Head) : (s.putHead h x).output g = s.output g := rfl

@[simp] theorem State.output_updHead (s : State) (h g : HeadId) (f : Head → Head) :
    (s.updHead h f).output g = s.output g := rfl

@[simp] theorem State.output_putContact (s : State) (h g : HeadId) (b : Bool) :
    (s.putContact h b).output g = s.output g := rfl

@[simp] theorem State.output_setMode (s : State) (m : Mode) (g : HeadId) : (s.setMode m).output g = s.output g := rfl

@[simp] theorem State.output_raise (s : State) (a : Alarm) (g : HeadId) : (s.raise a).output g = s.output g := rfl

@[simp] theorem State.output_putCorrection (s : State) (h : HeadId) (k : SlotId) (x : Int) (g : HeadId) :
    (s.putCorrection h k x).output g = s.output g := rfl

@[simp] theorem State.output_assignSlots (s : State) (h g : HeadId) (a p : Option SlotId) :
    (s.assignSlots h a p).output g = s.output g := by
  show (s.assignSlots h a p).outputs[g] = _
  rw [State.assignSlots_outputs]; rfl

@[simp] theorem State.output_deriveOutputs (s : State) (h g : HeadId) :
    (s.deriveOutputs h).output g =
      if g = h then derived s.drive (s.profileOf h) (s.head h) (s.output h) else s.output g :=
  vector_set_get _ _ _ _

theorem State.profileOf_congr {s t : State} {g : HeadId} (hp : t.profiles = s.profiles)
    (hh : (t.head g).profile = (s.head g).profile) : t.profileOf g = s.profileOf g := by
  unfold State.profileOf; simp only [hp, hh]

@[simp] theorem State.profileOf_enter (s : State) (h g : HeadId) (c : CycleState) (t : Option Timer) :
    (s.enter h c t).profileOf g = s.profileOf g := by
  refine State.profileOf_congr rfl ?_
  rw [State.head_enter]
  by_cases e : g = h
  · subst e; simp
  · simp [e]

@[simp] theorem State.output_enter (s : State) (h g : HeadId) (c : CycleState) (t : Option Timer) :
    (s.enter h c t).output g =
      if g = h then
        ⟨openSet c (s.output h).vent (s.profileOf h).fastDrive, (s.output h).vent,
          terminalsOf s.drive (s.profileOf h) (openSet c (s.output h).vent (s.profileOf h).fastDrive)⟩
      else s.output g := by
  unfold State.enter
  rw [State.output_deriveOutputs]
  by_cases e : g = h
  · subst e
    simp only [if_true, derived_eq]
    have hp : State.profileOf
        { s.putHead g { s.head g with cycle := c, timer := t } with
          inFlight := s.inFlight + one c.inFlight - one (s.head g).cycle.inFlight } g = s.profileOf g := by
      unfold State.profileOf State.head State.putHead; simp
    have hh : State.head
        { s.putHead g { s.head g with cycle := c, timer := t } with
          inFlight := s.inFlight + one c.inFlight - one (s.head g).cycle.inFlight } g =
        { s.head g with cycle := c, timer := t } := by
      show (s.putHead g _).head g = _; simp
    rw [hp, hh]; rfl
  · simp only [e, if_false]; rfl

@[simp] theorem State.output_goIdle (s : State) (h g : HeadId) :
    (s.goIdle h).output g =
      if g = h then ⟨Outputs.allOff, false, terminalsOf s.drive (s.profileOf h) Outputs.allOff⟩ else s.output g := by
  unfold State.goIdle; rw [State.output_enter]
  by_cases e : g = h
  · subst e; simp [openSet, State.profileOf]
  · simp [e]

@[simp] theorem State.output_clearHeads (s : State) (g : HeadId) :
    s.clearHeads.output g = ⟨Outputs.allOff, false, terminalsOf s.drive (s.profileOf g) Outputs.allOff⟩ := by
  show s.clearHeads.outputs[g] = _
  simp [State.clearHeads, derived_eq, Head.cleared, openSet]

/-! ### Slots, corrections, lanes and contacts -/

@[simp] theorem State.slot_putSlot (s : State) (k j : SlotId) (x : Slot) :
    (s.putSlot k x).slot j = if j = k then x else s.slot j := vector_set_get _ _ _ _

/-- Each slot after a head's slots change: its recipe stays, and its binding count follows the head (R92). -/
@[simp] theorem State.slot_assignSlots (s : State) (h : HeadId) (a p : Option SlotId) (k : SlotId) :
    (s.assignSlots h a p).slot k =
      { s.slot k with
        bindings := (s.slot k).bindings +
          one ({ s.head h with active := a, pendingSlot := p }.names k) - one ((s.head h).names k) } :=
  vector_ofFn_get _ _

@[simp] theorem State.recipe_assignSlots (s : State) (h : HeadId) (a p : Option SlotId) (k : SlotId) :
    (s.assignSlots h a p).recipe k = s.recipe k := by
  unfold State.recipe; rw [State.slot_assignSlots]

@[simp] theorem State.correction_putColumn (s : State) (h : HeadId) (k j : SlotId) (col : Vector Int 64) :
    (s.putColumn k col).correction h j = if j = k then col[h] else s.correction h j := by
  unfold State.correction State.putColumn
  rw [vector_set_get]
  by_cases e : j = k
  · simp [e]
  · simp [e]

@[simp] theorem State.correction_putCorrection (s : State) (h g : HeadId) (k j : SlotId) (v : Int) :
    (s.putCorrection h k v).correction g j =
      if g = h ∧ j = k then clampCorrection v else s.correction g j := by
  unfold State.putCorrection
  rw [State.correction_putColumn]
  by_cases e : j = k
  · subst e
    simp only [if_true, and_true]
    rw [vector_set_get]; rfl
  · simp [e]

@[simp] theorem State.contact_putContact (s : State) (h g : HeadId) (b : Bool) :
    (s.putContact h b).contact g = if g = h then b else s.contact g := vector_set_get _ _ _ _

theorem State.recipe_eq_of_slots {s t : State} (h : t.slots = s.slots) (k : SlotId) : t.recipe k = s.recipe k := by
  unfold State.recipe State.slot; rw [h]

@[simp] theorem State.recipe_enter (s : State) (h : HeadId) (c : CycleState) (t : Option Timer) (k : SlotId) :
    (s.enter h c t).recipe k = s.recipe k := rfl

@[simp] theorem State.recipe_updHead (s : State) (h : HeadId) (f : Head → Head) (k : SlotId) :
    (s.updHead h f).recipe k = s.recipe k := rfl

end Sys2Proof.Machine
end

