-- ==== Sys2Proof/Laws/Ops.lean ====
section
/-! SUPPORT. What the shared operations do, said once for each: the carrying of a request, the hand-over of a report,
fault counting, leaving flight, the learning step, the changeover and the halt of the heads. -/

namespace Sys2Proof.Machine

/-! ### Requests and events -/

/-- While LI listens, a request's block answers and the reply starts from the state it leaves (R175, R176). -/
theorem transact_of_listening {s : State} (hs : s.listening = true) (code : Nat) (body : State → State × Answer) :
    transact code body s = (body s).1.answered code (body s).2.status (body s).2.payload := by
  simp only [State.listening, State.running, Bool.and_eq_true, Bool.not_eq_true', decide_eq_true_eq] at hs
  obtain ⟨⟨h1, h2⟩, h3⟩ := hs
  unfold transact
  rw [if_neg (by simp [h1]), if_neg h2, if_neg h3]; rfl

theorem transact_of_held {s : State} (hs : s.running = false) (code : Nat) (body : State → State × Answer) :
    transact code body s = s := by
  simp only [State.running, Bool.not_eq_false'] at hs
  unfold transact; rw [if_pos hs]

theorem transact_of_transmitting {s : State} (hs : s.link.rx = .transmitting) (code : Nat)
    (body : State → State × Answer) : transact code body s = s := by
  unfold transact; split
  · rfl
  · simp

theorem event_of_running {s : State} (hs : s.running = true) (body : State → State) : event body s = body s := by
  simp only [State.running, Bool.not_eq_true'] at hs
  unfold event; rw [if_neg (by simp [hs])]

theorem event_of_held {s : State} (hs : s.running = false) (body : State → State) : event body s = s := by
  simp only [State.running, Bool.not_eq_false'] at hs
  unfold event; rw [if_pos hs]

/-- What holds of a state before and of the state a request's block leaves holds after the request, if the link
does not enter into it. -/
theorem transact_cases {P : State → Prop} {s : State} (code : Nat) (body : State → State × Answer) (h0 : P s)
    (hb : P (body s).1) (hl : ∀ (t : State) (l : Link), P t → P { t with link := l }) :
    P (transact code body s) := by
  unfold transact
  split
  · exact h0
  · split
    · exact h0
    · split
      · exact hl _ _ h0
      · exact hl _ _ hb

theorem event_cases {P : State → Prop} {s : State} (body : State → State) (h0 : P s) (hb : P (body s)) :
    P (event body s) := by
  unfold event; split
  · exact h0
  · exact hb

/-! ### Numbers -/

theorem microlitres_eq (n : Nat) : microlitres n = (n + 500) / 1000 := rfl

theorem microlitresSigned_eq (v : Int) : microlitresSigned v = linkCorrection v := by
  unfold microlitresSigned linkCorrection microlitres
  split <;> omega

theorem clampCorrection_eq (v : Int) : clampCorrection v = boundedCorrection v := by
  unfold clampCorrection boundedCorrection
  split
  · omega
  · split <;> omega

theorem boundedCorrection_bounds (v : Int) : -20000000 ≤ boundedCorrection v ∧ boundedCorrection v ≤ 20000000 := by
  unfold boundedCorrection; split
  · omega
  · split <;> omega

theorem inRange?_lt {n k : Nat} (h : k < n) : inRange? n k = some ⟨k, h⟩ := by unfold inRange?; rw [dif_pos h]

theorem inRange?_fin {n : Nat} (k : Fin n) : inRange? n k.val = some k := inRange?_lt k.isLt

theorem inRange?_ge {n k : Nat} (h : n ≤ k) : inRange? n k = none := by
  unfold inRange?; rw [dif_neg (by omega)]

/-! ### Reports -/

/-- RQ takes one record: numbered, stored where there is room, lost with REPORT_OVERFLOW where there is none (R120
to R122). Nothing else changes. -/
theorem State.fileReport_eq (s : State) (r : Report) :
    s.fileReport r = { s with
      reports := s.reports.filed { r with sequence := s.reports.sequence, lostBefore := s.reports.lost }
      alarms := s.alarmsFiled 1 } := by
  unfold State.fileReport State.alarmsFiled ReportQueue.filed ReportQueue.stored queueCapacity
  by_cases h : s.reports.records.length < 256
  · have h' : ¬ 256 < s.reports.records.length + 1 := by omega
    simp [h, h']
  · have h' : 256 < s.reports.records.length + 1 := by omega
    simp [h, h', State.raise, Alarms.set]

/-- What RQ makes of the report of a fill (R40, R117). -/
theorem fillReport_numbered (q : ReportQueue) (h : HeadId) (c : FillContext) (v : Verdict) :
    { fillReport h c v with sequence := q.sequence, lostBefore := q.lost } = storedFill q h c v := by
  unfold fillReport storedFill
  simp only [microlitres_eq, microlitresSigned_eq]; rfl

/-- A head's record after the fault count of R41: the count, and LOCKED_OUT at the threshold. -/
def countedHead (threshold : Nat) (v : Verdict) (x : Head) : Head :=
  { x with
    faults := nextFaults v x.faults
    enable := if locksOut threshold v x then .lockedOut else x.enable }

/-- Fault counting touches the head's count and enable state, and HEAD_LOCKOUT (R41). -/
theorem State.countFault_eq (s : State) (h : HeadId) (v : Verdict) :
    s.countFault h v = { s with
      heads := s.heads.set h (countedHead s.tracker.geometry.lockoutThreshold v (s.head h))
      alarms := { s.alarms with
        headLockout := s.alarms.headLockout || locksOut s.tracker.geometry.lockoutThreshold v (s.head h) } } := by
  unfold State.countFault countedHead
  by_cases hl : locksOut s.tracker.geometry.lockoutThreshold v (s.head h) = true
  · simp [hl, State.putHead, State.raise, Alarms.set]
  · simp [hl, State.putHead]

theorem nextFaults_unchanged {v : Verdict} (hv : v = .shortSnift ∨ v = .burst ∨ v = .halted ∨ v = .unfilled) (n : Nat) :
    nextFaults v n = n := by
  rcases hv with rfl | rfl | rfl | rfl <;> rfl

theorem locksOut_unchanged {v : Verdict} (hv : v = .shortSnift ∨ v = .burst ∨ v = .halted ∨ v = .unfilled)
    (n : Nat) (x : Head) : locksOut n v x = false := by
  rcases hv with rfl | rfl | rfl | rfl <;> simp [locksOut, Verdict.isFaulty]

theorem countedHead_unchanged {v : Verdict} (hv : v = .shortSnift ∨ v = .burst ∨ v = .halted ∨ v = .unfilled)
    (n : Nat) (x : Head) : countedHead n v x = x := by
  unfold countedHead; simp [nextFaults_unchanged hv, locksOut_unchanged hv]

/-- A head creates the report of its fill: RQ has it, the context is gone, the verdict is counted (R40, R41). -/
theorem State.reportFill_eq {s : State} {h : HeadId} {c : FillContext} (hc : (s.head h).fill = some c) (v : Verdict) :
    s.reportFill h v = { s with
      reports := s.reports.filed (storedFill s.reports h c v)
      heads := s.heads.set h
        (countedHead s.tracker.geometry.lockoutThreshold v { s.head h with fill := none })
      alarms := { s.alarmsFiled 1 with
        headLockout := s.alarms.headLockout ||
          locksOut s.tracker.geometry.lockoutThreshold v { s.head h with fill := none } } } := by
  unfold State.reportFill
  rw [hc]
  simp only [State.countFault_eq, State.fileReport_eq, fillReport_numbered]
  have hh : State.head (State.updHead { s with
      reports := s.reports.filed (storedFill s.reports h c v), alarms := s.alarmsFiled 1 } h
        fun x => { x with fill := none }) h = { s.head h with fill := none } := by
    rw [State.head_updHead, if_pos rfl]; rfl
  rw [hh]
  simp only [State.updHead, State.putHead, Vector.set_set]
  rfl

/-- An UNFILLED report counts no fault, so only RQ and REPORT_OVERFLOW change (R26, R40, R41). -/
theorem State.reportUnfilled_eq (s : State) (h : HeadId) :
    s.reportUnfilled h = s.fileReport (unfilledReport h (s.head h).active) := by
  unfold State.reportUnfilled
  rw [State.countFault_eq]
  have hv : Verdict.unfilled = .shortSnift ∨ Verdict.unfilled = .burst ∨ Verdict.unfilled = .halted ∨
      Verdict.unfilled = .unfilled := by simp
  rw [countedHead_unchanged hv, locksOut_unchanged hv]
  have : (s.fileReport (unfilledReport h (s.head h).active)).heads.set h
      ((s.fileReport (unfilledReport h (s.head h).active)).head h) =
        (s.fileReport (unfilledReport h (s.head h).active)).heads := by
    apply vector_ext_fin; intro i
    rw [vector_set_get]; split
    · rename_i e; subst e; rfl
    · rfl
  rw [this]; simp

end Sys2Proof.Machine
end

