-- ==== Sys2Proof/Laws/Fills.lean ====
section
/-! SUPPORT. What the operations of a fill do to its head, to the head's outputs and to the rest of the state: entry
and exit of states, reports, closing, aborting, learning, judging, and the end of a calibration run. -/

namespace Sys2Proof.Machine

/-! ### Only one head -/

/-- An operation that writes one head's record and outputs, and other fields as listed, acts on that head only. -/
theorem OnlyHead.of_get {h : HeadId} {s t u : State} (hh : ∀ g, g ≠ h → t.head g = s.head g)
    (ho : ∀ g, g ≠ h → t.output g = s.output g)
    (hu : { t with heads := u.heads, outputs := u.outputs } = u) : OnlyHead h s t u := by
  refine ⟨fun g hg => ⟨hh g hg, ho g hg⟩, ?_⟩
  rw [← hu]

theorem OnlyHead.head_ne {h g : HeadId} {s t u : State} (H : OnlyHead h s t u) (hg : g ≠ h) : t.head g = s.head g :=
  (H.1 g hg).1

theorem OnlyHead.output_ne {h g : HeadId} {s t u : State} (H : OnlyHead h s t u) (hg : g ≠ h) :
    t.output g = s.output g := (H.1 g hg).2

theorem OnlyHead.enter (h : HeadId) (c : CycleState) (tm : Option Timer) (s : State) :
    OnlyHead h s (s.enter h c tm)
      { s with inFlight := s.inFlight + one c.inFlight - one (s.head h).cycle.inFlight } :=
  OnlyHead.of_get (fun g hg => by simp [hg]) (fun g hg => by simp [hg]) rfl

theorem OnlyHead.goIdle (h : HeadId) (s : State) :
    OnlyHead h s (s.goIdle h) { s with inFlight := s.inFlight - one (s.head h).cycle.inFlight } := by
  refine OnlyHead.of_get (fun g hg => by simp [hg]) (fun g hg => by simp [hg]) ?_
  unfold State.goIdle
  rw [(OnlyHead.enter h _ _ _).2, State.head_putOutput, State.head_updHead, if_pos rfl]
  rfl

/-! ### Leaving flight -/

theorem State.judgeDrain_of_ne {s : State} (hm : s.mode ≠ .draining ∨ s.inFlight ≠ 0) : s.judgeDrain = s := by
  unfold State.judgeDrain
  rw [if_neg]; rintro ⟨h1, h2⟩; rcases hm with h | h
  · exact h h1
  · exact h h2

theorem State.judgeDrain_ends {s : State} (hm : s.mode = .draining) (hn : s.inFlight = 0) :
    s.judgeDrain = s.endDraining := by
  unfold State.judgeDrain; rw [if_pos ⟨hm, hn⟩]

/-- A head that leaves flight does not end DRAINING while another head is in flight (R138). -/
theorem State.leaveFlight_eq {s : State} {h : HeadId} {c : CycleState} {tm : Option Timer}
    (hk : s.mode ≠ .draining ∨ 1 < s.inFlight) : s.leaveFlight h c tm = s.enter h c tm := by
  unfold State.leaveFlight
  apply State.judgeDrain_of_ne
  rcases hk with hk | hk
  · left; simpa using hk
  · right
    have : one (s.head h).cycle.inFlight ≤ 1 := by unfold one; split <;> omega
    simp only [State.enter_inFlight]; omega

theorem State.leaveToIdle_eq {s : State} {h : HeadId} (hk : s.mode ≠ .draining ∨ 1 < s.inFlight) :
    s.leaveToIdle h = s.goIdle h := by
  unfold State.leaveToIdle
  apply State.judgeDrain_of_ne
  rcases hk with hk | hk
  · left; simpa using hk
  · right
    have : one (s.head h).cycle.inFlight ≤ 1 := by unfold one; split <;> omega
    have e := (OnlyHead.goIdle h s).2
    rw [e]; show s.inFlight - _ ≠ 0; omega

theorem State.keepsFilling_iff {s : State} :
    s.keepsFilling = true → s.mode ≠ .calibration ∧ (s.mode ≠ .draining ∨ 1 < s.inFlight) := by
  unfold State.keepsFilling
  intro h
  simp only [Bool.or_eq_true, Bool.and_eq_true, decide_eq_true_eq] at h
  rcases h with h | ⟨h, h'⟩
  · rw [h]; simp
  · rw [h]; simp [h']

/-! ### Reports of fills -/

@[simp] theorem State.head_reportFill {s : State} {h : HeadId} {c : FillContext} (hc : (s.head h).fill = some c)
    (v : Verdict) (g : HeadId) :
    (s.reportFill h v).head g =
      if g = h then countedHead s.tracker.geometry.lockoutThreshold v { s.head h with fill := none } else s.head g := by
  rw [State.reportFill_eq hc]; exact vector_set_get _ _ _ _

theorem OnlyHead.reportFill {s : State} {h : HeadId} {c : FillContext} (hc : (s.head h).fill = some c) (v : Verdict) :
    OnlyHead h s (s.reportFill h v) { s with
      reports := s.reports.filed (storedFill s.reports h c v)
      alarms := { s.alarmsFiled 1 with
        headLockout := s.alarms.headLockout ||
          locksOut s.tracker.geometry.lockoutThreshold v { s.head h with fill := none } } } := by
  refine OnlyHead.of_get (fun g hg => by simp [State.head_reportFill hc, hg]) (fun g hg => ?_) ?_
  · rw [State.reportFill_eq hc]; rfl
  · rw [State.reportFill_eq hc]

/-! ### The end of a fill by abort, contact loss or discharge -/

/-- A fill given up: reported, the head ABORTED with its vent running (R39). -/
theorem State.abortFill_spec {s : State} {h : HeadId} {c : FillContext} (hc : (s.head h).fill = some c) (v : Verdict)
    (hk : s.mode ≠ .draining ∨ 1 < s.inFlight) :
    let dwell := (s.recipe c.slot).sniftDwell
    let limit := s.tracker.geometry.lockoutThreshold
    OnlyHead h s (s.abortFill h v) { s with
        inFlight := s.inFlight - one (s.head h).cycle.inFlight
        reports := s.reports.filed (storedFill s.reports h c v)
        alarms := { s.alarmsFiled 1 with
          headLockout := s.alarms.headLockout || locksOut limit v { s.head h with fill := none } } } ∧
      (s.abortFill h v).head h = { countedHead limit v { s.head h with fill := none } with
        cycle := .aborted
        timer := if dwell = 0 then none else some ⟨.vent, dwell⟩ } ∧
      ((s.abortFill h v).output h).opened = ⟨false, false, false, decide (dwell ≠ 0)⟩ ∧
      ((s.abortFill h v).output h).vent = decide (dwell ≠ 0) := by
  intro dwell limit
  have e : s.abortFill h v = ((s.reportFill h v).putOutput h
      { (s.reportFill h v).output h with vent := decide (dwell ≠ 0) }).enter h .aborted
        (if dwell = 0 then none else some ⟨.vent, dwell⟩) := by
    unfold State.abortFill
    rw [hc]
    refine State.leaveFlight_eq ?_
    rw [State.reportFill_eq hc]; exact hk
  have hr := OnlyHead.reportFill hc v
  rw [e]
  refine ⟨OnlyHead.of_get (fun g hg => ?_) (fun g hg => ?_) ?_, ?_, ?_, ?_⟩
  · simp [State.head_reportFill hc, hg]
  · simp [hg, hr.output_ne hg]
  · rw [(OnlyHead.enter h _ _ _).2, State.head_putOutput, State.head_reportFill hc, if_pos rfl, State.reportFill_eq hc]
    rfl
  · simp [State.head_reportFill hc, limit]
  · simp [openSet, Outputs.allOff]
  · simp

/-- A fill that ends with a report and leaves its head in IDLE (R36, R37). -/
theorem State.endFill_spec {s : State} {h : HeadId} {c : FillContext} (hc : (s.head h).fill = some c) (v : Verdict)
    (hk : s.mode ≠ .draining ∨ 1 < s.inFlight) :
    let limit := s.tracker.geometry.lockoutThreshold
    OnlyHead h s (s.endFill h v) { s with
        inFlight := s.inFlight - one (s.head h).cycle.inFlight
        reports := s.reports.filed (storedFill s.reports h c v)
        alarms := { s.alarmsFiled 1 with
          headLockout := s.alarms.headLockout || locksOut limit v { s.head h with fill := none } } } ∧
      (s.endFill h v).head h = (countedHead limit v { s.head h with fill := none }).cleared ∧
      ((s.endFill h v).output h).opened = Outputs.allOff ∧ ((s.endFill h v).output h).vent = false := by
  intro limit
  have e : s.endFill h v = (s.reportFill h v).goIdle h := by
    unfold State.endFill
    refine State.leaveToIdle_eq ?_
    rw [State.reportFill_eq hc]; exact hk
  have hr := OnlyHead.reportFill hc v
  rw [e]
  refine ⟨OnlyHead.of_get (fun g hg => ?_) (fun g hg => ?_) ?_, ?_, ?_, ?_⟩
  · simp [State.head_reportFill hc, hg]
  · simp [hg, hr.output_ne hg]
  · rw [(OnlyHead.goIdle h _).2, State.head_reportFill hc, if_pos rfl, State.reportFill_eq hc]; rfl
  · simp [State.head_reportFill hc, limit]
  · simp
  · simp

/-! ### Starting and closing a fill -/

/-- The close of a fill (R33): CLOSING with the settle timer, the duration taken, the late flag set if it is one. -/
theorem State.enterClosing_spec {s : State} {h : HeadId} {c : FillContext} (hc : (s.head h).fill = some c) (late : Bool) :
    OnlyHead h s (s.enterClosing h late) { s with
        inFlight := s.inFlight + 1 - one (s.head h).cycle.inFlight } ∧
      (s.enterClosing h late).head h = { s.head h with
        cycle := .closing
        timer := some ⟨.settle, (s.recipe c.slot).settleTime⟩
        fill := some { c with
          duration := fillDuration s.clock c.startTime
          flags := { c.flags with late := c.flags.late || late } } } ∧
      ((s.enterClosing h late).output h).opened = Outputs.allOff := by
  have e : s.enterClosing h late = (s.updHead h fun x => { x with fill := some { c with
      duration := fillDuration s.clock c.startTime
      flags := { c.flags with late := c.flags.late || late } } }).enter h .closing
        (some ⟨.settle, (s.recipe c.slot).settleTime⟩) := by
    unfold State.enterClosing; rw [hc]
  rw [e]
  refine ⟨OnlyHead.of_get (fun g hg => ?_) (fun g hg => ?_) ?_, ?_, ?_⟩
  · simp [hg]
  · simp [hg]
  · rw [(OnlyHead.enter h _ _ _).2, State.head_updHead, if_pos rfl]; rfl
  · simp
  · simp [openSet, Outputs.allOff]

/-- The slots after a changeover at a PRESSURIZE entry (R92, R99): the recipes stay; with a pending slot other than
the active one, the head ceases to name its old active slot alone. -/
theorem State.adopt_spec (s : State) (h : HeadId) :
    s.adopt h = { s with
        heads := (s.adopt h).heads
        slots := (s.adopt h).slots
        pendingChangeovers := (s.adopt h).pendingChangeovers } ∧
      (∀ g, (s.adopt h).head g =
        if g = h then { s.head h with
          active := (s.head h).pendingSlot.or (s.head h).active, pendingSlot := none } else s.head g) ∧
      (∀ k, (s.adopt h).recipe k = s.recipe k) ∧
      (∀ k, ((s.adopt h).slot k).recipe = (s.slot k).recipe) ∧
      ((s.head h).pendingSlot = none → (s.adopt h).slots = s.slots ∧
        (s.adopt h).pendingChangeovers = s.pendingChangeovers) ∧
      ((s.head h).pendingSlot.isSome = true → (s.adopt h).pendingChangeovers = s.pendingChangeovers - 1) ∧
      (∀ k, (s.head h).pendingSlot = some k → (s.head h).active ≠ some k →
        ∀ j, ((s.adopt h).slot j).bindings =
          (s.slot j).bindings - if (s.head h).active = some j then 1 else 0) := by
  cases hp : (s.head h).pendingSlot with
  | none =>
    have e : s.adopt h = s := by unfold State.adopt; rw [hp]
    rw [e]
    refine ⟨rfl, fun g => ?_, fun _ => rfl, fun _ => rfl, fun _ => ⟨rfl, rfl⟩, by simp, by simp⟩
    split
    · rename_i eg; subst eg; rw [show ({ s.head g with active := none.or (s.head g).active, pendingSlot := none } : Head)
        = { s.head g with active := (s.head g).active, pendingSlot := (s.head g).pendingSlot } by rw [hp]; rfl]
    · rfl
  | some p =>
    have e : s.adopt h = s.assignSlots h (some p) none := by unfold State.adopt; rw [hp]
    rw [e]
    refine ⟨rfl, fun g => ?_, fun k => ?_, fun k => ?_, by simp, fun _ => ?_, fun k hk ha j => ?_⟩
    · simp
    · simp
    · simp
    · simp [State.assignSlots, hp, one]
    · simp only [Option.some.injEq] at hk; subst hk
      simp only [State.slot_assignSlots, Head.names, hp]
      by_cases h1 : p = j
      · subst h1; simp [ha, one]
      · by_cases h2 : (s.head h).active = some j
        · simp [h1, h2, one]
        · simp [h1, h2, one]

/-- The context latched at a PRESSURIZE entry is the one R51 and R52 give. -/
theorem State.latchContext_eq (s : State) (h : HeadId) (k : SlotId) (b : Bool) :
    s.latchContext h k b = latchedContext s h k (s.fillTarget k) b := by
  unfold State.latchContext latchedContext closeTargetOf sat32 graceScans ceilDiv State.profileOf FillFlags.clear
  simp only [FillContext.mk.injEq, true_and, and_true]
  omega

/-- PRESSURIZE entry (R27, R28, R51, R52, R99): the slot adopted, the context latched, the head in PRESSURIZE or for a
dwell of 0 ms in FILL_SOFT; only slots and pending changeovers change beside the head. -/
theorem State.enterPressurize_spec {s : State} {h : HeadId} {k : SlotId}
    (hk : (s.head h).pendingSlot = some k ∨ ((s.head h).pendingSlot = none ∧ (s.head h).active = some k)) :
    let dwell := (s.recipe k).pressurizeDwell
    OnlyHead h s (s.enterPressurize h) { s with
        slots := (s.adopt h).slots
        pendingChangeovers := (s.adopt h).pendingChangeovers
        inFlight := s.inFlight + 1 - one (s.head h).cycle.inFlight } ∧
      (s.enterPressurize h).head h = { s.head h with
        active := some k
        pendingSlot := none
        cycle := if dwell = 0 then .fillSoft else .pressurize
        timer := if dwell = 0 then none else some ⟨.pressurizeDwell, dwell⟩
        fill := some (latchedContext s h k (s.fillTarget k) (s.head h).pendingSlot.isSome) } ∧
      ((s.enterPressurize h).output h).opened =
        (if dwell = 0 then ⟨false, false, true, false⟩ else ⟨true, false, false, false⟩) := by
  intro dwell
  obtain ⟨h1, h2, h3, -⟩ := s.adopt_spec h
  have ha : ((s.adopt h).head h).active = some k := by
    rw [h2, if_pos rfl]
    rcases hk with hk | ⟨hk, hk'⟩
    · simp [hk]
    · simp [hk, hk']
  have ho : ∀ g, (s.adopt h).output g = s.output g := fun g => by rw [h1]; rfl
  have hl : (s.adopt h).latchContext h k (s.head h).pendingSlot.isSome =
      latchedContext s h k (s.fillTarget k) (s.head h).pendingSlot.isSome := by
    rw [State.latchContext_eq]
    have ht : (s.adopt h).fillTarget k = s.fillTarget k := by
      unfold State.fillTarget; rw [h3 k]; rw [h1]
    rw [ht]
    have hp : ((s.adopt h).head h).profile = (s.head h).profile := by rw [h2, if_pos rfl]
    have hf : ((s.adopt h).head h).factor = (s.head h).factor := by rw [h2, if_pos rfl]
    have hc : (s.adopt h).corrections = s.corrections := by rw [h1]
    have hck : (s.adopt h).clock = s.clock := by rw [h1]
    have hpr : (s.adopt h).profiles = s.profiles := by rw [h1]
    unfold latchedContext State.correction
    simp only [hp, hf, hc, hck, hpr]
  have hd : ((s.adopt h).recipe k).pressurizeDwell = dwell := by rw [h3 k]
  have hI : (s.adopt h).inFlight = s.inFlight := by rw [h1]
  have hcy : ((s.adopt h).head h).cycle = (s.head h).cycle := by rw [h2, if_pos rfl]
  have e : s.enterPressurize h =
      if dwell = 0 then ((s.adopt h).updHead h fun x => { x with
          fill := some (latchedContext s h k (s.fillTarget k) (s.head h).pendingSlot.isSome) }).enter h .fillSoft none
      else ((s.adopt h).updHead h fun x => { x with
          fill := some (latchedContext s h k (s.fillTarget k) (s.head h).pendingSlot.isSome) }).enter h .pressurize
        (some ⟨.pressurizeDwell, dwell⟩) := by
    unfold State.enterPressurize
    simp only [ha, hl, hd]
  rw [e]
  by_cases hz : dwell = 0
  · simp only [hz, if_true]
    refine ⟨OnlyHead.of_get (fun g hg => ?_) (fun g hg => ?_) ?_, ?_, ?_⟩
    · simp [hg, h2]
    · simp [hg, ho]
    · rw [(OnlyHead.enter h _ _ _).2, State.head_updHead, if_pos rfl]
      simp only [State.updHead_inFlight, hI, hcy]
      rw [h1]; rfl
    · simp [h2, ← ha]
    · simp [openSet, Outputs.allOff]
  · simp only [hz, if_false]
    refine ⟨OnlyHead.of_get (fun g hg => ?_) (fun g hg => ?_) ?_, ?_, ?_⟩
    · simp [hg, h2]
    · simp [hg, ho]
    · rw [(OnlyHead.enter h _ _ _).2, State.head_updHead, if_pos rfl]
      simp only [State.updHead_inFlight, hI, hcy]
      rw [h1]; rfl
    · simp [h2]
      simpa [h2] using ha
    · simp [openSet, Outputs.allOff]

/-! ### Settling and judging -/

theorem isOutlier_iff (r : Recipe) (c : FillContext) :
    isOutlier r c = decide ((r.outlierLimit : Int) * 1000 < |(c.delivered : Int) - c.target|) := by
  unfold isOutlier fillError
  congr 1
  apply propext
  rw [Int.abs_eq_natAbs]
  omega

/-- The learning step (R71, R78): an eligible fill adds its step to its own entry, clamped, and removes a
reservation on that entry; nothing else changes, and a fill that is not eligible changes nothing. -/
theorem State.learn_spec (s : State) (h : HeadId) (c : FillContext) :
    let r := s.recipe c.slot
    s.learn h c = { s with
        corrections := (s.learn h c).corrections
        reservation :=
          if eligible r c = true ∧ s.reservation = some (h, c.slot) then none else s.reservation } ∧
      ∀ g k, (s.learn h c).correction g k =
        if g = h ∧ k = c.slot ∧ eligible r c = true then
          boundedCorrection (s.correction h c.slot + Int.tdiv (((c.delivered : Int) - c.target) * r.gain) 16)
        else s.correction g k := by
  intro r
  unfold State.learn
  by_cases he : eligible (s.recipe c.slot) c = true
  · simp only [he, if_true, true_and, and_true, r]
    refine ⟨rfl, fun g k => ?_⟩
    show (s.putCorrection h c.slot _).correction g k = _
    rw [State.correction_putCorrection, clampCorrection_eq]; rfl
  · simp [he, r]

/-- A run of a calibration that ends at its head (R156, R157). -/
theorem State.endRun_spec {s : State} {h : HeadId} {c : FillContext} (hc : (s.head h).fill = some c) (o : CalOutcome)
    (u : CalState) :
    (s.endRun h o u).head h = (s.head h).cleared ∧ ((s.endRun h o u).output h).opened = Outputs.allOff ∧
      OnlyHead h s (s.endRun h o u) { s with
        inFlight := s.inFlight - one (s.head h).cycle.inFlight
        cal := { s.cal with
          state := u
          last := some ⟨h, o, c.delivered / c.factor, c.delivered, none, none, none⟩ } } := by
  have e : s.endRun h o u = { s.goIdle h with cal := { s.cal with state := u, last := some (runResult h o c) } } := by
    unfold State.endRun; rw [hc]
  rw [e]
  refine ⟨?_, ?_, OnlyHead.of_get (fun g hg => ?_) (fun g hg => ?_) ?_⟩
  · show (s.goIdle h).head h = _; simp
  · show ((s.goIdle h).output h).opened = _; simp
  · show (s.goIdle h).head g = _; simp [hg]
  · show (s.goIdle h).output g = _; simp [hg]
  · rw [(OnlyHead.goIdle h s).2]; rfl

theorem volumeVerdict_eq (r : Recipe) (c : FillContext) : volumeVerdict r c = judgedVerdict r c := by
  unfold volumeVerdict judgedVerdict belowBand aboveBand
  simp only [decide_eq_true_eq]

/-- The verdicts of a judged fill: each but ACCEPT counts as a fault (R41, R65). -/
theorem judgedVerdict_faulty (r : Recipe) (c : FillContext) :
    (judgedVerdict r c = .accept ∧ (judgedVerdict r c).isFaulty = false) ∨
      (judgedVerdict r c ≠ .accept ∧ (judgedVerdict r c).isFaulty = true ∧
        ∀ n, nextFaults (judgedVerdict r c) n = if n + 1 ≤ 15 then n + 1 else 15) := by
  have hm : ∀ n : Nat, min 15 (n + 1) = if n + 1 ≤ 15 then n + 1 else 15 := fun n => by split <;> omega
  generalize hv : judgedVerdict r c = v
  have : v = .accept ∨ v = .meterFault ∨ v = .late ∨ v = .underfill ∨ v = .overfill := by
    subst hv; unfold judgedVerdict; split
    · simp
    · split
      · split <;> simp
      · split
        · split <;> simp
        · simp
  rcases this with rfl | rfl | rfl | rfl | rfl <;> simp [Verdict.isFaulty, nextFaults, hm]

/-- The record and the lockout of a judged fill, in the terms of R36, R40 and R41. -/
theorem countedHead_judged (limit : Nat) (r : Recipe) (c : FillContext) (x : Head) :
    ({ countedHead limit (judgedVerdict r c) { x with fill := none } with cycle := .done, timer := none } : Head) =
        judgedHead limit (judgedVerdict r c) x ∧
      locksOut limit (judgedVerdict r c) { x with fill := none } = judgedLock limit (judgedVerdict r c) x := by
  unfold countedHead judgedHead judgedLock locksOut lockedAt raisedFaults
  rcases judgedVerdict_faulty r c with ⟨h1, h2⟩ | ⟨h1, h2, h3⟩
  · simp [h1, Verdict.isFaulty, nextFaults]
  · simp [h1, h2, h3]

/-- The snift dwell of a production fill ends: judged, reported, counted, and the head in DONE (R36, R40, R41). -/
theorem State.finishSnift_spec {s : State} {h : HeadId} {c : FillContext} (hc : (s.head h).fill = some c)
    (hm : s.mode ≠ .calibration) (hk : s.mode ≠ .draining ∨ 1 < s.inFlight) :
    let v := judgedVerdict (s.recipe c.slot) c
    let limit := s.tracker.geometry.lockoutThreshold
    OnlyHead h s (s.finishSnift h) { s with
        inFlight := s.inFlight - one (s.head h).cycle.inFlight
        reports := s.reports.filed (storedFill s.reports h c v)
        alarms := { s.alarmsFiled 1 with headLockout := s.alarms.headLockout || judgedLock limit v (s.head h) } } ∧
      (s.finishSnift h).head h = judgedHead limit v (s.head h) ∧
      ((s.finishSnift h).output h).opened = Outputs.allOff := by
  intro v limit
  have e : s.finishSnift h = (s.reportFill h v).enter h .done none := by
    unfold State.finishSnift
    rw [hc]
    simp only [hm, if_false, volumeVerdict_eq]
    refine State.leaveFlight_eq ?_
    rw [State.reportFill_eq hc]; exact hk
  obtain ⟨h1, h2⟩ := countedHead_judged limit (s.recipe c.slot) c (s.head h)
  have hr := OnlyHead.reportFill hc v
  rw [e]
  refine ⟨OnlyHead.of_get (fun g hg => ?_) (fun g hg => ?_) ?_, ?_, ?_⟩
  · simp [State.head_reportFill hc, hg]
  · simp [hg, hr.output_ne hg]
  · rw [(OnlyHead.enter h _ _ _).2, State.head_reportFill hc, if_pos rfl, State.reportFill_eq hc, h2]; rfl
  · rw [← h1]; simp [State.head_reportFill hc, limit, v]
  · simp [openSet, Outputs.allOff]

/-- A calibration run that reaches the end of its snift dwell (R156). -/
theorem State.finishSnift_calibration {s : State} {h : HeadId} {c : FillContext} (hc : (s.head h).fill = some c)
    (hm : s.mode = .calibration) : s.finishSnift h = s.endRun h (runOutcome c) (afterRun (runOutcome c)) := by
  unfold State.finishSnift State.completeRun
  rw [hc]
  simp only [hm, if_true]

end Sys2Proof.Machine
end

