-- ==== Sys2Proof/Laws/Halts.lean ====
section
/-! SUPPORT. What the operations that act on many heads do: the halt of the heads, the end of DRAINING, and the heads
that a cleaning run drives. -/

namespace Sys2Proof.Machine

/-! ### Several records in one event -/

theorem ReportQueue.filed_length (q : ReportQueue) (r : Report) :
    (q.filed r).records.length = if q.records.length < 256 then q.records.length + 1 else q.records.length := by
  unfold ReportQueue.filed ReportQueue.stored
  split <;> simp

/-- The alarms after one more record is handed over. -/
theorem alarmsFiled_step (s t : State) (r : Report) (n : Nat) (hr : t.reports = s.reports.filed r)
    (ha : t.alarms = s.alarmsFiled 1) : t.alarmsFiled n = s.alarmsFiled (n + 1) := by
  have hx : t.alarms.reportOverflow = (s.alarmsFiled 1).reportOverflow := by rw [ha]
  have hy : { t.alarms with reportOverflow := false } = { s.alarms with reportOverflow := false } := by
    rw [ha]; rfl
  have hl := s.reports.filed_length r
  have key : (t.alarmsFiled n).reportOverflow = (s.alarmsFiled (n + 1)).reportOverflow := by
    show (t.alarms.reportOverflow || (decide (n ≠ 0) && decide (256 < t.reports.records.length + n))) =
      (s.alarms.reportOverflow || (decide (n + 1 ≠ 0) && decide (256 < s.reports.records.length + (n + 1))))
    rw [hx]
    show ((s.alarms.reportOverflow || (decide (1 ≠ 0) && decide (256 < s.reports.records.length + 1))) ||
      (decide (n ≠ 0) && decide (256 < t.reports.records.length + n))) = _
    rw [hr, hl]
    generalize s.reports.records.length = m
    clear hl
    cases s.alarms.reportOverflow
    · by_cases h : m < 256
      · rw [if_pos h, Bool.eq_iff_iff]
        simp only [Bool.false_or, Bool.or_eq_true, Bool.and_eq_true, decide_eq_true_eq]; omega
      · rw [if_neg h, Bool.eq_iff_iff]
        simp only [Bool.false_or, Bool.or_eq_true, Bool.and_eq_true, decide_eq_true_eq]; omega
    · simp
  unfold State.alarmsFiled at key ⊢
  simp only [Alarms.mk.injEq] at hy ⊢
  exact ⟨hy.1, hy.2.1, hy.2.2.1, key, hy.2.2.2.2⟩

/-- One record per head, handed over head by head: what a fold of head operations that report at most once each
leaves. `content` is what each head files, and each operation files it and leaves every head as it was but for what
going to IDLE removes. -/
theorem fold_reports (m : Mode) (f : State → HeadId → State) (content : State → HeadId → Option Report)
    (hnone : ∀ s h, s.mode = m → content s h = none → f s h = s)
    (hsome : ∀ s h r, s.mode = m → content s h = some r → ∃ x : Head, x.cleared = (s.head h).cleared ∧ f s h = { s with
      reports := s.reports.filed { r with sequence := s.reports.sequence, lostBefore := s.reports.lost }
      alarms := s.alarmsFiled 1
      heads := s.heads.set h x })
    (hcontent : ∀ s t g, t.head g = s.head g → content t g = content s g) :
    ∀ (l : List HeadId), l.Nodup → ∀ s : State, s.mode = m →
      let t := l.foldl f s
      t = { s with
        heads := t.heads
        reports := s.reports.filedAll (l.filterMap (content s))
        alarms := s.alarmsFiled (l.filterMap (content s)).length } ∧
      (∀ g, (t.head g).cleared = (s.head g).cleared) ∧ ∀ g, g ∉ l → t.head g = s.head g := by
  intro l
  induction l with
  | nil =>
    intro _ s _
    refine ⟨?_, fun _ => rfl, fun _ _ => rfl⟩
    ext <;> simp [ReportQueue.filedAll, State.alarmsFiled]
  | cons h l ih =>
    intro hn s hm
    obtain ⟨hh, hn⟩ := List.nodup_cons.mp hn
    cases hc : content s h with
    | none =>
      have e : f s h = s := hnone s h hm hc
      have ih := ih hn s hm
      simp only [List.foldl_cons, e, List.filterMap_cons, hc]
      exact ⟨ih.1, ih.2.1, fun g hg => ih.2.2 g fun hm => hg (List.mem_cons_of_mem _ hm)⟩
    | some r =>
      obtain ⟨x, hx, e⟩ := hsome s h r hm hc
      have hg : ∀ g, g ≠ h → (f s h).head g = s.head g := by
        intro g hg; rw [e]; show (s.heads.set h x)[g] = _
        rw [vector_set_get, if_neg hg]; rfl
      have hself : (f s h).head h = x := by
        rw [e]; show (s.heads.set h x)[h] = _; rw [vector_set_get, if_pos rfl]
      have hl : l.filterMap (content (f s h)) = l.filterMap (content s) := by
        apply List.filterMap_congr
        intro g hg'
        exact hcontent _ _ _ (hg g fun eg => hh (eg ▸ hg'))
      obtain ⟨h1, h2, h3⟩ := ih hn (f s h) (by rw [e]; exact hm)
      simp only [List.foldl_cons, List.filterMap_cons, hc]
      rw [hl] at h1
      refine ⟨?_, fun g => ?_, fun g hgl => ?_⟩
      · rw [h1]
        have ha : (f s h).alarmsFiled (l.filterMap (content s)).length =
            s.alarmsFiled ((l.filterMap (content s)).length + 1) := by
          refine alarmsFiled_step s (f s h) _ _ (by rw [e]) (by rw [e])
        rw [ha]
        rw [e]; rfl
      · rw [h2 g]
        by_cases eg : g = h
        · subst eg; rw [hself, hx]
        · rw [hg g eg]
      · rw [h3 g fun hm => hgl (List.mem_cons_of_mem _ hm), hg g fun eg => hgl (eg ▸ List.mem_cons_self)]

/-! ### The halt of the heads and the end of DRAINING -/

theorem haltContent_congr (s t : State) (g : HeadId) (h : t.head g = s.head g) : haltContent t g = haltContent s g := by
  unfold haltContent storedFill; rw [h]

theorem drainContent_congr (s t : State) (g : HeadId) (h : t.head g = s.head g) :
    drainContent t g = drainContent s g := by
  unfold drainContent; rw [h]

theorem set_head_self (s : State) (h : HeadId) : s.heads.set h (s.head h) = s.heads := by
  apply vector_ext_fin; intro i
  rw [vector_set_get]; split
  · rename_i e; subst e; rfl
  · rfl

theorem reportSkipped_none {s : State} {h : HeadId} (hc : drainContent s h = none) : s.reportSkipped h = s := by
  unfold drainContent at hc
  unfold State.reportSkipped
  split at hc
  · cases hc
  · rename_i hn; simp only [hn, if_false]

theorem reportSkipped_some {s : State} {h : HeadId} {r : Report} (hc : drainContent s h = some r) :
    ∃ x : Head, x.cleared = (s.head h).cleared ∧ s.reportSkipped h = { s with
      reports := s.reports.filed { r with sequence := s.reports.sequence, lostBefore := s.reports.lost }
      alarms := s.alarmsFiled 1
      heads := s.heads.set h x } := by
  unfold drainContent at hc
  unfold State.reportSkipped
  split at hc
  · rename_i hn
    simp only [Option.some.injEq] at hc; subst hc
    refine ⟨s.head h, rfl, ?_⟩
    simp only [hn, and_self, if_true, State.reportUnfilled_eq, State.fileReport_eq, set_head_self]
    rfl
  · cases hc

/-- The end of DRAINING (R138, R43, R124). -/
theorem State.endDraining_spec (s : State) : DrainedFrom s s.endDraining := by
  obtain ⟨h1, h2, -⟩ := fold_reports .standby (fun t h => t.reportSkipped h) drainContent
    (fun _ _ _ => reportSkipped_none) (fun _ _ _ _ => reportSkipped_some) drainContent_congr allHeads nodup_allHeads
    (s.setMode .standby) rfl
  unfold State.endDraining
  generalize List.foldl (fun t h => t.reportSkipped h) (s.setMode .standby) allHeads = t at h1 h2 ⊢
  have hd : (fun h => drainContent (s.setMode .standby) h) = fun h => drainContent s h := by
    funext h; exact drainContent_congr _ _ _ rfl
  refine ⟨⟨fun h => ?_, fun h => ?_, rfl⟩, ?_⟩
  · rw [State.head_clearHeads]; exact h2 h
  · rw [State.output_clearHeads]
    have hp : t.profileOf h = s.profileOf h := by
      refine State.profileOf_congr (by rw [h1]; rfl) ?_
      have := congrArg Head.profile (h2 h); exact this
    rw [hp, h1]; rfl
  · have hf : { t with heads := t.clearHeads.heads, outputs := t.clearHeads.outputs, inFlight := 0 } = t.clearHeads := rfl
    rw [← hf, h1]; rfl

theorem reportHalted_none {s : State} {h : HeadId} (hc : haltContent s h = none) :
    s.reportHalted h = s := by
  unfold haltContent at hc
  unfold State.reportHalted State.reportHalted.halted State.reportFill State.reportSkipped
  cases hcy : (s.head h).cycle <;>
    simp [hcy, CycleState.holdsFill, CycleState.isFillStage] at hc ⊢ <;> simp [hc]

theorem reportHalted_some {s : State} {h : HeadId} {r : Report} (hm : s.mode ≠ .calibration)
    (hc : haltContent s h = some r) :
    ∃ x : Head, x.cleared = (s.head h).cleared ∧ s.reportHalted h = { s with
      reports := s.reports.filed { r with sequence := s.reports.sequence, lostBefore := s.reports.lost }
      alarms := s.alarmsFiled 1
      heads := s.heads.set h x } := by
  by_cases hh : (s.head h).cycle.holdsFill = true
  · unfold haltContent at hc
    rw [if_pos hh] at hc
    cases hf : (s.head h).fill with
    | none => rw [hf] at hc; cases hc
    | some c =>
      rw [hf] at hc
      simp only [Option.map_some, Option.some.injEq] at hc; subst hc
      refine ⟨{ s.head h with fill := none }, rfl, ?_⟩
      have e : s.reportHalted h = s.reportFill h .halted := by
        unfold State.reportHalted State.reportHalted.halted
        rw [if_neg hm]
        cases hcy : (s.head h).cycle <;> rw [hcy] at hh <;>
          simp [CycleState.holdsFill, CycleState.isFillStage] at hh ⊢
      rw [e, State.reportFill_eq hf, countedHead_unchanged (by simp), locksOut_unchanged (by simp)]
      simp only [Bool.or_false]
      rfl
  · have hd : drainContent s h = some r := by
      unfold haltContent at hc; rw [if_neg hh] at hc; exact hc
    have hcy : (s.head h).cycle = .skip := by
      unfold drainContent at hd; split at hd
      · rename_i hn; exact hn.1
      · cases hd
    have e : s.reportHalted h = s.reportSkipped h := by unfold State.reportHalted; rw [hcy]
    rw [e]; exact reportSkipped_some hd

/-- A halt of the heads (R44, R124): reports in ascending head order, every head to IDLE, every output closed. -/
theorem State.haltHeads_spec {s : State} (hm : s.mode ≠ .calibration) :
    let filed := allHeads.filterMap (haltContent s)
    HeadsAtRest s s.haltHeads ∧ s.haltHeads = { s with
      heads := s.haltHeads.heads
      outputs := s.haltHeads.outputs
      inFlight := 0
      reports := s.reports.filedAll filed
      alarms := s.alarmsFiled filed.length } := by
  intro filed
  obtain ⟨h1, h2, -⟩ := fold_reports s.mode (fun t h => t.reportHalted h) haltContent
    (fun t h e hc => reportHalted_none hc) (fun t h r e hc => reportHalted_some (e ▸ hm) hc) haltContent_congr
    allHeads nodup_allHeads s rfl
  unfold State.haltHeads
  generalize List.foldl (fun t h => t.reportHalted h) s allHeads = t at h1 h2 ⊢
  refine ⟨⟨fun h => ?_, fun h => ?_, rfl⟩, ?_⟩
  · rw [State.head_clearHeads]; exact h2 h
  · rw [State.output_clearHeads]
    have hp : t.profileOf h = s.profileOf h := by
      refine State.profileOf_congr (by rw [h1]) ?_
      have := congrArg Head.profile (h2 h); exact this
    rw [hp, h1]; rfl
  · have hf : { t with heads := t.clearHeads.heads, outputs := t.clearHeads.outputs, inFlight := 0 } = t.clearHeads := rfl
    rw [← hf, h1]

/-- A calibration that CU holds in IDLE has nothing to end. -/
theorem State.endCalibration_idle {s : State} (hm : s.mode ≠ .calibration) (hc : CalibrationFitsMode s) :
    s.endCalibration = s := by
  have hidle : s.cal.state = .idle := hc.1.mpr hm
  obtain ⟨c1, c2⟩ := hc.2.1 hidle
  have ha : s.abandonRun = s := by unfold State.abandonRun; rw [c1]
  unfold State.endCalibration; rw [ha]
  show { s with cal := s.cal.ended } = s
  have : s.cal.ended = s.cal := by
    unfold Calibration.ended
    cases hcal : s.cal with
    | mk a b c d => rw [hcal] at c1 c2 hidle; simp only at c1 c2 hidle; subst c1 c2 hidle; rfl
  rw [this]

/-- What the end of a calibration changes (R159, R160): CU goes to IDLE with the result cut, and its head to rest;
no report, no alarm. -/
theorem State.endCalibration_spec (s : State) :
    let t := s.endCalibration
    t = { s with
        heads := t.heads
        outputs := t.outputs
        inFlight := t.inFlight
        cal := ⟨none, none, .idle, s.resultCut⟩ } ∧
      ∀ g, (t.head g).cleared = (s.head g).cleared ∧
        ((t.head g).cycle = .idle ∨ t.head g = s.head g) ∧
        (s.cal.state = .dosing → s.cal.head = some g → (s.head g).fill.isSome = true → (t.head g).cycle = .idle) := by
  intro t
  cases hh : s.cal.head with
  | none =>
    have e : t = { s with cal := s.cal.ended } := by
      show s.endCalibration = _
      unfold State.endCalibration State.abandonRun; rw [hh]
    rw [e]
    refine ⟨?_, fun g => ⟨rfl, .inr rfl, fun _ h => by cases h⟩⟩
    have : s.resultCut = s.cal.last := by unfold State.resultCut; rw [hh]; split <;> simp_all
    rw [this]; rfl
  | some h =>
    by_cases hd : s.cal.state = .dosing
    · cases hf : (s.head h).fill with
      | none =>
        have e : t = { s with cal := s.cal.ended } := by
          show s.endCalibration = _
          unfold State.endCalibration State.abandonRun State.endRun; rw [hh]; simp only [hd, if_true, hf]
        rw [e]
        refine ⟨?_, fun g => ⟨rfl, .inr rfl, fun _ e hs => ?_⟩⟩
        · have : s.resultCut = s.cal.last := by unfold State.resultCut; rw [hd, hh]; simp only [hf]
          rw [this]; rfl
        · cases e; rw [hf] at hs; cases hs
      | some c =>
        have e : t = { s.goIdle h with cal := ⟨none, none, .idle, s.resultCut⟩ } := by
          show s.endCalibration = _
          unfold State.endCalibration State.abandonRun State.endRun Calibration.ended State.resultCut
          rw [hh]; simp only [hd, if_true, hf]; rfl
        rw [e]
        refine ⟨by rw [(OnlyHead.goIdle h s).2], fun g => ?_⟩
        have hg : State.head { s.goIdle h with cal := ⟨none, none, .idle, s.resultCut⟩ } g = (s.goIdle h).head g := rfl
        rw [hg]
        by_cases eg : g = h
        · subst eg; simp only [State.head_goIdle, if_true]
          exact ⟨rfl, .inl rfl, fun _ _ _ => rfl⟩
        · rw [(OnlyHead.goIdle h s).head_ne eg]
          exact ⟨rfl, .inr rfl, fun _ e => absurd (Option.some.inj e).symm eg⟩
    · have e : t = { s with cal := s.cal.ended } := by
        show s.endCalibration = _
        unfold State.endCalibration State.abandonRun; rw [hh]; simp only [hd, if_false]
      rw [e]
      refine ⟨?_, fun g => ⟨rfl, .inr rfl, fun h' => absurd h' hd⟩⟩
      have : s.resultCut = s.cal.last := by unfold State.resultCut; split <;> simp_all
      rw [this]; rfl

/-- A fold of head operations that do nothing in a state leaves it. -/
theorem foldl_fixed {α : Type} (f : State → α → State) {s : State} (h : ∀ a, f s a = s) :
    ∀ l : List α, l.foldl f s = s
  | [] => rfl
  | a :: l => by rw [List.foldl_cons, h a]; exact foldl_fixed f h l

/-- In CALIBRATION a halt of the heads creates no report where no head is in SKIP (R44, R160). -/
theorem State.haltHeads_calibration {s : State} (hm : s.mode = .calibration) (hs : ∀ g, (s.head g).cycle ≠ .skip) :
    s.haltHeads = s.clearHeads := by
  have still : ∀ g, s.reportHalted g = s := by
    intro g
    unfold State.reportHalted State.reportHalted.halted
    rw [if_pos hm]
    cases hcy : (s.head g).cycle with
    | skip => exact absurd hcy (hs g)
    | _ => rfl
  unfold State.haltHeads; rw [foldl_fixed _ still]

/-- A halt of the D64 in CALIBRATION (R139, R160). -/
theorem State.haltAll_calibration {s : State} (hm : s.mode = .calibration) (hh : HeadsLaw s) :
    HaltedFrom s s.haltAll := by
  obtain ⟨e1, e2⟩ := s.endCalibration_spec
  have hk : s.endCalibration.haltHeads = s.endCalibration.clearHeads := by
    refine State.haltHeads_calibration (by have := congrArg State.mode e1; exact this.trans hm) fun g => ?_
    rcases (e2 g).2.1 with h | h
    · rw [h]; decide
    · rw [h]
      have := (hh.2.2 g).1
      unfold headFits at this
      rw [hm] at this
      rcases this with h' | ⟨_, _, h'⟩
      · rw [h']; decide
      · intro h''; rw [h''] at h'; exact absurd h' (by decide)
  have hall : s.haltAll = { s with
      heads := s.endCalibration.clearHeads.heads
      outputs := s.endCalibration.clearHeads.outputs
      inFlight := 0
      cal := ⟨none, none, .idle, s.resultCut⟩
      mode := .halted
      cleaning := s.cleaning.stopped } := by
    unfold State.haltAll; rw [hk]
    generalize s.endCalibration = u at e1
    have hcl : u.clearHeads.cleaning = s.cleaning := by rw [State.clearHeads_cleaning, e1]
    have hf : { u with heads := u.clearHeads.heads, outputs := u.clearHeads.outputs, inFlight := 0 } = u.clearHeads := rfl
    dsimp only
    rw [hcl]
    generalize s.cleaning.stopped = q
    calc ({ u.clearHeads with cleaning := q, mode := .halted } : State)
        = { ({ u with heads := u.clearHeads.heads, outputs := u.clearHeads.outputs, inFlight := 0 } : State) with
            cleaning := q, mode := .halted } := by rw [hf]
      _ = _ := by rw [e1]
  refine ⟨⟨fun h => ?_, fun h => ?_, ?_⟩, ?_⟩
  · rw [hall]; show s.endCalibration.clearHeads.head h = _
    rw [State.head_clearHeads]; exact (e2 h).1
  · rw [hall]; show s.endCalibration.clearHeads.output h = _
    rw [State.output_clearHeads]
    have hp : s.endCalibration.profileOf h = s.profileOf h := by
      refine State.profileOf_congr (by have := congrArg State.profiles e1; exact this) ?_
      have := congrArg Head.profile (e2 h).1; exact this
    have hd : s.endCalibration.drive = s.drive := by have := congrArg State.drive e1; exact this
    rw [hp, hd]; rfl
  · rw [hall]
  · rw [hall, if_pos hm, if_pos hm]
    have hr : s.alarmsFiled ([] : List Report).length = s.alarms := by simp [State.alarmsFiled]
    rw [hr]; rfl

/-- A halt of the D64 outside CALIBRATION, with CU in IDLE (R139). -/
theorem State.haltAll_idle {s : State} (hm : s.mode ≠ .calibration) (hc : CalibrationFitsMode s) :
    HaltedFrom s s.haltAll := by
  obtain ⟨⟨r1, r2, r3⟩, h⟩ := State.haltHeads_spec hm
  unfold State.haltAll
  rw [State.endCalibration_idle hm hc]
  generalize s.haltHeads = u at r1 r2 r3 h ⊢
  refine ⟨⟨r1, r2, r3⟩, ?_⟩
  have hcl : u.cleaning = s.cleaning := by rw [h]
  rw [if_neg hm, if_neg hm]
  show { u with cleaning := u.cleaning.stopped, mode := .halted } = { s with
    heads := u.heads
    outputs := u.outputs
    inFlight := 0
    reports := s.reports.filedAll (allHeads.filterMap (haltContent s))
    alarms := s.alarmsFiled (allHeads.filterMap (haltContent s)).length
    mode := .halted
    cleaning := s.cleaning.stopped }
  rw [hcl]
  calc { u with cleaning := s.cleaning.stopped, mode := .halted }
      = { ({ s with
          heads := u.heads
          outputs := u.outputs
          inFlight := 0
          reports := s.reports.filedAll (allHeads.filterMap (haltContent s))
          alarms := s.alarmsFiled (allHeads.filterMap (haltContent s)).length } : State) with
        cleaning := s.cleaning.stopped, mode := .halted } := by rw [← h]
    _ = _ := rfl

/-- A halt of the D64 (R139): in CALIBRATION it ends the calibration without a report (R160). -/
theorem State.haltAll_spec {s : State} (hc : CalibrationFitsMode s) (hh : s.mode = .calibration → HeadsLaw s) :
    HaltedFrom s s.haltAll := by
  by_cases hm : s.mode = .calibration
  · exact State.haltAll_calibration hm (hh hm)
  · exact State.haltAll_idle hm hc

/-! ### Heads moved one after the other -/

/-- A fold of an operation that acts on one head at a time, its record and outputs and the in-flight count alone:
each head of the list is acted on as it stood before the fold, and no other. -/
theorem fold_own (f : State → HeadId → State) (F : Head → Head)
    (G : DriveState → Vector ValveProfile 8 → Head → HeadOutputs → HeadOutputs)
    (honly : ∀ s h, OnlyHead h s (f s h) { s with inFlight := (f s h).inFlight })
    (hhead : ∀ s h, (f s h).head h = F (s.head h))
    (hout : ∀ s h, (f s h).output h = G s.drive s.profiles (s.head h) (s.output h)) :
    ∀ (l : List HeadId), l.Nodup → ∀ s : State,
      let t := l.foldl f s
      t = { s with heads := t.heads, outputs := t.outputs, inFlight := t.inFlight } ∧
        ∀ g, t.head g = (if g ∈ l then F (s.head g) else s.head g) ∧
          t.output g = (if g ∈ l then G s.drive s.profiles (s.head g) (s.output g) else s.output g) := by
  intro l
  induction l with
  | nil => intro _ s; exact ⟨rfl, fun g => ⟨by simp, by simp⟩⟩
  | cons h l ih =>
    intro hn s
    obtain ⟨hh, hn⟩ := List.nodup_cons.mp hn
    obtain ⟨i1, i2⟩ := ih hn (f s h)
    have ho := honly s h
    have hd : (f s h).drive = s.drive := by rw [ho.2]
    have hp : (f s h).profiles = s.profiles := by rw [ho.2]
    simp only [List.foldl_cons]
    refine ⟨?_, fun g => ?_⟩
    · rw [i1, ho.2]
    · rw [(i2 g).1, (i2 g).2, hd, hp]
      by_cases eg : g = h
      · subst eg
        simp [hh, hhead, hout]
      · rw [ho.head_ne eg, ho.output_ne eg]
        simp [eg]

/-- The driven heads take a cleaning state (R163 to R165). -/
theorem State.driveTo_spec (c : CycleState) (s : State) :
    let t := s.driveTo c
    t = { s with heads := t.heads, outputs := t.outputs, inFlight := t.inFlight } ∧
      ∀ g : HeadId,
        t.head g = (if s.cleaning.driven[g] then { s.head g with cycle := c, timer := none } else s.head g) ∧
          (s.cleaning.driven[g] = true →
            (t.output g).opened = openSet c (s.output g).vent (s.profileOf g).fastDrive) ∧
          (s.cleaning.driven[g] = false → t.output g = s.output g) := by
  have hmem : ∀ g, g ∈ s.drivenHeads ↔ s.cleaning.driven[g] = true := by
    intro g; unfold State.drivenHeads; simp
  obtain ⟨h1, h2⟩ := fold_own (fun t h => t.enter h c none) (fun x => { x with cycle := c, timer := none })
    (fun d p x o => ⟨openSet c o.vent p[x.profile].fastDrive, o.vent,
      terminalsOf d p[x.profile] (openSet c o.vent p[x.profile].fastDrive)⟩)
    (fun s h => OnlyHead.enter h c none s) (fun s h => by simp) (fun s h => by simp [State.profileOf])
    s.drivenHeads (nodup_allHeads.filter _) s
  refine ⟨h1, fun g => ⟨?_, fun hd => ?_, fun hd => ?_⟩⟩
  · rw [show s.driveTo c = s.drivenHeads.foldl (fun t h => t.enter h c none) s from rfl, (h2 g).1]
    simp only [hmem]
  · rw [show s.driveTo c = s.drivenHeads.foldl (fun t h => t.enter h c none) s from rfl, (h2 g).2,
      if_pos ((hmem g).mpr hd)]
    rfl
  · rw [show s.driveTo c = s.drivenHeads.foldl (fun t h => t.enter h c none) s from rfl, (h2 g).2, if_neg]
    rw [hmem, hd]; exact Bool.false_ne_true

/-- The driven heads go to IDLE (R165, R167). -/
theorem State.releaseDriven_spec (s : State) :
    let t := s.releaseDriven
    t = { s with heads := t.heads, outputs := t.outputs, inFlight := t.inFlight } ∧
      ∀ g : HeadId, t.head g = (if s.cleaning.driven[g] then (s.head g).atRest else s.head g) ∧
        (s.cleaning.driven[g] = true → (t.output g).opened = Outputs.allOff) ∧
        (s.cleaning.driven[g] = false → t.output g = s.output g) := by
  have hmem : ∀ g, g ∈ s.drivenHeads ↔ s.cleaning.driven[g] = true := by
    intro g; unfold State.drivenHeads; simp
  obtain ⟨h1, h2⟩ := fold_own (fun t h => t.goIdle h) (fun x => x.atRest)
    (fun d p x _ => ⟨Outputs.allOff, false, terminalsOf d p[x.profile] Outputs.allOff⟩)
    (fun s h => by have := OnlyHead.goIdle h s; rw [this.2] ; exact ⟨fun g hg => this.1 g hg, rfl⟩)
    (fun s h => by simp only [State.head_goIdle, if_true]; rfl) (fun s h => by simp [State.profileOf])
    s.drivenHeads (nodup_allHeads.filter _) s
  refine ⟨h1, fun g => ⟨?_, fun hd => ?_, fun hd => ?_⟩⟩
  · rw [show s.releaseDriven = s.drivenHeads.foldl (fun t h => t.goIdle h) s from rfl, (h2 g).1]
    simp only [hmem]
  · rw [show s.releaseDriven = s.drivenHeads.foldl (fun t h => t.goIdle h) s from rfl, (h2 g).2,
      if_pos ((hmem g).mpr hd)]
  · rw [show s.releaseDriven = s.drivenHeads.foldl (fun t h => t.goIdle h) s from rfl, (h2 g).2, if_neg]
    rw [hmem, hd]; exact Bool.false_ne_true

end Sys2Proof.Machine
end

