-- ==== Sys2Proof/Laws/Link.lean ====
section
/-! SUPPORT. The frame check of R173: the register as a bit vector and as a number. -/

namespace Sys2Proof.Machine

/-- One shift of the register. -/
theorem crc_shift (r : BitVec 16) :
    (if r.msb then (r <<< 1) ^^^ 0x1021#16 else r <<< 1).toNat = frameCheck.shifted r.toNat := by
  have hr := r.isLt
  have hd : (r <<< 1).toNat = 2 * r.toNat % 65536 := by
    rw [BitVec.toNat_shiftLeft, Nat.shiftLeft_eq]; omega
  unfold frameCheck.shifted
  by_cases h : 32768 ≤ r.toNat
  · have hm : r.msb = true := by rw [BitVec.msb_eq_decide]; simpa using h
    rw [if_pos hm, if_pos h, BitVec.toNat_xor, hd]
    have : 2 * r.toNat % 65536 = 2 * r.toNat - 65536 := by omega
    rw [this]; rfl
  · have hm : r.msb = false := by rw [BitVec.msb_eq_decide]; simpa using h
    rw [if_neg (by rw [hm]; exact Bool.false_ne_true), if_neg h, hd]; omega

/-- `n` shifts of the register. -/
theorem crc_shifts (n : Nat) : ∀ r : BitVec 16, (crcByte.shift n r).toNat = frameCheck.shifted^[n] r.toNat := by
  induction n with
  | zero => intro r; rfl
  | succ n ih => intro r; rw [crcByte.shift, ih, crc_shift, Function.iterate_succ_apply]

/-- The frame check of R173 on bit vectors is the one on numbers. -/
theorem crc_toNat (bytes : List Byte) : (crc bytes).toNat = frameCheck bytes := by
  unfold crc frameCheck
  have key : ∀ (l : List Byte) (r : BitVec 16), (l.foldl crcByte r).toNat =
      l.foldl (fun r b => frameCheck.shifted^[8] (r ^^^ (256 * b.toNat))) r.toNat := by
    intro l
    induction l with
    | nil => intro r; rfl
    | cons b l ih =>
      intro r
      rw [List.foldl_cons, List.foldl_cons, ih]
      congr 1
      have hb : ((b.zeroExtend 16) <<< 8).toNat = 256 * b.toNat := by
        have := b.isLt
        rw [BitVec.toNat_shiftLeft, Nat.shiftLeft_eq, BitVec.zeroExtend, BitVec.toNat_setWidth]; omega
      rw [crcByte, crc_shifts, BitVec.toNat_xor, hb]
  exact key bytes _
end Sys2Proof.Machine
end

