-- ==== Sys2Proof/Tests/Slice0.lean ====
section
/-! SUPPORT. The model's own tests: a smoke test of WellFormed, the words of requests as R178 spells them, one step of
each command on a small state with the figures of the spec's worked sequences, and for each statement a state and
operands that meet its hypotheses together. -/

namespace Sys2Proof.Tests

-- One test after the other: elaborated side by side, the tests' threads take more memory than a build may have.
set_option Elab.async false

open Sys2Proof.Machine

/-! ### Small states -/

/-- The state a command leaves. -/
def after (i : Instr) (s : State) : State :=
  match exec i s with
  | .next t => t
  | .fault _ => s
  | .refused _ => s

/-- The status of the reply to a request. -/
def statusOf (i : Instr) (s : State) : Option Status := (after i s).link.tx.map Reply.status

/-- The payload of the reply to a request. -/
def payloadOf (i : Instr) (s : State) : Option (List Byte) := (after i s).link.tx.map Reply.payload

/-- The geometry of the worked conversion of chapter 1 (section 1.2), with the defaults for the other fields. -/
def geo : Geometry := ⟨60, 10000, 1200, 8192, 24576, 40960, 8, 64, 3⟩

/-- Recipe slot 2 of the worked pass (section 2.9), with the pulse ceiling, smoothing shift and outlier limit of the
two-scan close and a stuck window of 100 ms. -/
def product : Recipe := ⟨500000, 40000, 60000, 1500, 1500, 200, 120, 30, 180, 100, 64, 2, 4, 5000⟩

/-- Head 7 of the worked pass (section 2.9), in IDLE. -/
def head7 : Head := ⟨.enabled, 3, 50000, some 2, none, 1, .idle, false, none, none⟩

/-- The setting of the worked pass, in STANDBY: head 7 on slot 2 with its correction of 1,200,000 nL, profile 3 with
a closing lag of 18,000 µs, the product-ready line high, the count of the worked conversion. -/
def quiet : State :=
  { State.reset with
    tracker := ⟨geo, 2599, 0, 0, .referenced⟩
    heads := State.reset.heads.set 7 head7
    slots := State.reset.slots.set 2 ⟨some product, 1⟩
    corrections := State.reset.corrections.set 2 ((State.reset.corrections[2]).set 7 1200000)
    profiles := State.reset.profiles.set 3 ⟨0, 18000, .normal, .normal, .normal, .normal, .wideWithNarrow⟩
    productReady := true
    pins := { Pins.reset with productReady := true } }

/-- The same setting in another mode, with a record for head 7 and an in-flight count. -/
def set7 (m : Mode) (n : Nat) (x : Head) : State :=
  { quiet with mode := m, inFlight := n, heads := quiet.heads.set 7 x }

/-- The same, with head 7's contact present. -/
def touched (s : State) : State := s.withContact 7 true

/-- The fill context of head 7 before scan 1 of the two-scan close (chapter 3). -/
def topUp : FillContext :=
  ⟨2, 500000000, 1200000, 498800000, 18000, 50000, 490900000, 95000, 0, 0, 35, 0, FillFlags.clear⟩

/-- A fill context whose settle time has expired, with final volume `v`. -/
def settled (v : Nat) (fl : FillFlags) : FillContext :=
  { topUp with delivered := v, duration := 807, flags := fl }

/-- Head 7 in a state with a timer and a context. -/
def busy (c : CycleState) (t : Option Timer) (f : Option FillContext) : Head :=
  { head7 with cycle := c, timer := t, fill := f }

/-- Head 7 in SNIFT with final volume `v`. -/
def sniffing (v : Nat) : State :=
  touched (set7 .production 1 (busy .snift (some ⟨.sniftDwell, 180⟩) (some (settled v FillFlags.clear))))

/-- Head 7 in CLOSING with its settle timer running. -/
def closing (v : Nat) : State :=
  touched (set7 .production 1 (busy .closing (some ⟨.settle, 30⟩) (some (settled v FillFlags.clear))))

/-- A calibration of head 7, in a CU state, with a last result. -/
def calibrating (st : CalState) (last : Option CalResult) (n : Nat) (x : Head) : State :=
  { set7 .calibration n x with cal := ⟨some 7, some 500000, st, last⟩ }

/-- The run of the worked calibration (chapter 9): Vm 497,600,000 nL at a factor of 2,000. -/
def completed : State :=
  calibrating .awaitActual (some ⟨7, .complete, 248800, 497600000, none, none, none⟩) 0 { head7 with factor := 2000 }

/-- Heads 3 and 4 ENABLED, for the worked cleaning run (chapter 10). -/
def cleanable : State :=
  { State.reset with
    heads := (State.reset.heads.set 3 { Head.powerOn with enable := .enabled, factor := 2000 }).set 4
      { Head.powerOn with enable := .enabled, factor := 2000 } }

/-- The worked cleaning run in a phase of a cycle. -/
def cleaning (phase : CleaningPhase) (cycle done : Nat) (c : CycleState) : State :=
  { cleanable with
    mode := .cleaning
    heads := (cleanable.heads.set 3 { cleanable.head 3 with cycle := c }).set 4 { cleanable.head 4 with cycle := c }
    cleaning := ⟨some ⟨2000, 500, 2⟩, phase, cycle, done, (Vector.replicate 64 false).set 3 true |>.set 4 true,
      some 2000, (Vector.replicate 64 0).set 3 70000000, Vector.replicate 64 false, .running⟩ }

/-- A report with a sequence. -/
def record (n : Nat) : Report := ⟨BitVec.ofNat 32 n, 7, some 2, .accept, FillFlags.clear, 500008, 500000, 1200, 807, 0⟩

/-! ### WellFormed -/

theorem test_wellFormed_accepts_full_fields :
    (Instr.setHead 255 255 65535).wellFormed = true ∧ (Instr.setGeometry geo).wellFormed = true ∧
      (Instr.loadRecipe 255 product).wellFormed = true ∧ (Instr.writeCorrection 255 255 (-32768)).wellFormed = true ∧
      (Instr.startCalibration 255 4294967295).wellFormed = true ∧ (Instr.unknownRequest 0x20).wellFormed = true := by
  decide

theorem test_wellFormed_refuses_geometry :
    Geometry.wellFormed { geo with headCount := 256 } = false ∧ Geometry.wellFormed { geo with cpr := 65536 } = false ∧
      Geometry.wellFormed { geo with zeroOffset := 65536 } = false ∧
      Geometry.wellFormed { geo with infeed := 65536 } = false ∧
      Geometry.wellFormed { geo with latestClose := 65536 } = false ∧
      Geometry.wellFormed { geo with discharge := 65536 } = false ∧
      Geometry.wellFormed { geo with indexTolerance := 256 } = false ∧
      Geometry.wellFormed { geo with reverseTolerance := 65536 } = false ∧
      Geometry.wellFormed { geo with lockoutThreshold := 256 } = false := by decide

theorem test_wellFormed_refuses_recipe_volumes :
    Recipe.wellFormed { product with target := 4294967296 } = false ∧
      Recipe.wellFormed { product with softStart := 4294967296 } = false ∧
      Recipe.wellFormed { product with topUpBand := 4294967296 } = false ∧
      Recipe.wellFormed { product with toleranceBelow := 65536 } = false ∧
      Recipe.wellFormed { product with toleranceAbove := 65536 } = false ∧
      Recipe.wellFormed { product with outlierLimit := 65536 } = false := by decide

theorem test_wellFormed_refuses_recipe_times :
    Recipe.wellFormed { product with contactWindow := 65536 } = false ∧
      Recipe.wellFormed { product with pressurizeDwell := 65536 } = false ∧
      Recipe.wellFormed { product with settleTime := 65536 } = false ∧
      Recipe.wellFormed { product with sniftDwell := 65536 } = false ∧
      Recipe.wellFormed { product with stuckWindow := 65536 } = false ∧
      Recipe.wellFormed { product with pulseCeiling := 65536 } = false ∧
      Recipe.wellFormed { product with smoothing := 256 } = false ∧
      Recipe.wellFormed { product with gain := 256 } = false := by decide

theorem test_wellFormed_refuses_profile :
    ProfileFields.wellFormed ⟨65536, 0, 0, 0, 0, 0, 0⟩ = false ∧
      ProfileFields.wellFormed ⟨0, 65536, 0, 0, 0, 0, 0⟩ = false ∧
      ProfileFields.wellFormed ⟨0, 0, 256, 0, 0, 0, 0⟩ = false ∧
      ProfileFields.wellFormed ⟨0, 0, 0, 256, 0, 0, 0⟩ = false ∧
      ProfileFields.wellFormed ⟨0, 0, 0, 0, 256, 0, 0⟩ = false ∧
      ProfileFields.wellFormed ⟨0, 0, 0, 0, 0, 256, 0⟩ = false ∧
      ProfileFields.wellFormed ⟨0, 0, 0, 0, 0, 0, 256⟩ = false := by decide

theorem test_wellFormed_refuses_heads_and_slots :
    (Instr.setValveProfile 256 ⟨0, 0, 0, 0, 0, 0, 0⟩).wellFormed = false ∧
      (Instr.readValveProfile 256).wellFormed = false ∧ (Instr.setHead 256 0 0).wellFormed = false ∧
      (Instr.setHead 0 256 0).wellFormed = false ∧ (Instr.setHead 0 0 65536).wellFormed = false ∧
      (Instr.readHead 256).wellFormed = false ∧ (Instr.loadRecipe 256 product).wellFormed = false ∧
      (Instr.readRecipe 256).wellFormed = false ∧ (Instr.unloadRecipe 256).wellFormed = false ∧
      (Instr.bindRecipe 0 256).wellFormed = false ∧ (Instr.readCorrections 256).wellFormed = false := by decide

theorem test_wellFormed_refuses_corrections :
    (Instr.readCorrectionForEdit 256 0).wellFormed = false ∧ (Instr.readCorrectionForEdit 0 256).wellFormed = false ∧
      (Instr.writeCorrection 256 0 0).wellFormed = false ∧ (Instr.writeCorrection 0 256 0).wellFormed = false ∧
      (Instr.writeCorrection 0 0 32768).wellFormed = false ∧ (Instr.writeCorrection 0 0 (-32769)).wellFormed = false ∧
      (Instr.restoreCorrections 256 (Vector.replicate 64 0)).wellFormed = false ∧
      (Instr.restoreCorrections 0 (Vector.replicate 64 32768)).wellFormed = false := by decide

theorem test_wellFormed_refuses_the_rest :
    (Instr.startCleaning 65536 0 1).wellFormed = false ∧ (Instr.startCleaning 100 65536 1).wellFormed = false ∧
      (Instr.startCleaning 100 0 256).wellFormed = false ∧ (Instr.startCalibration 256 10000).wellFormed = false ∧
      (Instr.startCalibration 0 4294967296).wellFormed = false ∧
      (Instr.enterActualVolume 4294967296).wellFormed = false ∧ (Instr.peekReports 256).wellFormed = false ∧
      (Instr.discardReports 65536).wellFormed = false ∧ (Instr.setReporting 256).wellFormed = false ∧
      (Instr.unknownRequest 0x1F).wellFormed = false ∧ (Instr.unknownRequest 256).wellFormed = false := by decide

/-! ### The words of requests, written from R178 and R181 -/

theorem test_decode_setHead :
    decodeRequest 0x06 [7#8, 3#8, 0x50#8, 0xC3#8] = .ok (.setHead 7 3 50000) := by decide

theorem test_decode_setGeometry :
    decodeRequest 0x02
      [60#8, 0x10#8, 0x27#8, 0xB0#8, 0x04#8, 0x00#8, 0x20#8, 0x00#8, 0x60#8, 0x00#8, 0xA0#8, 8#8, 64#8, 0#8, 3#8] =
        .ok (.setGeometry geo) := by decide

theorem test_decode_setValveProfile :
    decodeRequest 0x04 [5#8, 0xA0#8, 0x0F#8, 0x98#8, 0x3A#8, 0#8, 0#8, 0#8, 1#8, 1#8] =
      .ok (.setValveProfile 5 ⟨4000, 15000, 0, 0, 0, 1, 1⟩) := by decide

theorem test_decode_loadRecipe :
    decodeRequest 0x0A
      ([2#8, 0x20#8, 0xA1#8, 0x07#8, 0#8, 0x40#8, 0x9C#8, 0#8, 0#8, 0x60#8, 0xEA#8, 0#8, 0#8, 0xDC#8, 0x05#8] ++
        [0xDC#8, 0x05#8, 200#8, 0#8, 120#8, 0#8, 30#8, 0#8, 180#8, 0#8, 100#8, 0#8, 64#8, 0#8, 2#8, 4#8] ++
        [0x88#8, 0x13#8]) = .ok (.loadRecipe 2 product) := by decide

theorem test_decode_bindRecipe :
    decodeRequest 0x0D [0x70#8, 0#8, 0#8, 0#8, 0#8, 0#8, 0#8, 0x80#8, 3#8] =
      .ok (.bindRecipe 0x8000000000000070#64 3) := by decide

theorem test_decode_writeCorrection :
    decodeRequest 0x10 [7#8, 2#8, 0x50#8, 0xFB#8] = .ok (.writeCorrection 7 2 (-1200)) := by decide

theorem test_decode_startCleaning :
    decodeRequest 0x16 [0xD0#8, 0x07#8, 0xF4#8, 0x01#8, 2#8] = .ok (.startCleaning 2000 500 2) := by decide

theorem test_decode_startCalibration :
    decodeRequest 0x18 [22#8, 0x20#8, 0xA1#8, 0x07#8, 0#8] = .ok (.startCalibration 22 500000) := by decide

theorem test_decode_reports :
    decodeRequest 0x1B [16#8] = .ok (.peekReports 16) ∧ decodeRequest 0x1C [0#8, 1#8] = .ok (.discardReports 256) ∧
      decodeRequest 0x1D [240#8] = .ok (.setReporting 240) ∧
      decodeRequest 0x1E [0x1F#8] = .ok (.acknowledgeAlarms 0x1F#8) := by decide

theorem test_decode_without_payload :
    decodeRequest 0x01 [] = .ok .readStatus ∧ decodeRequest 0x12 [] = .ok .startProduction ∧
      decodeRequest 0x14 [] = .ok (.halt false) ∧ decodeRequest 0x1F [] = .ok .restart := by decide

theorem test_decode_rejects :
    decodeRequest 0x00 [] = .error .unknownRequest ∧ decodeRequest 0x20 [] = .error .unknownRequest ∧
      decodeRequest 0x01 [0#8] = .error .badLength ∧ decodeRequest 0x06 [7#8, 3#8, 0x50#8] = .error .badLength := by
  decide

/-! ### The link (chapter 11) -/

/-- R173: "Over the nine ASCII bytes of the text 123456789 this computation gives 0x29B1." -/
theorem test_crc_of_the_spec :
    crc [0x31#8, 0x32#8, 0x33#8, 0x34#8, 0x35#8, 0x36#8, 0x37#8, 0x38#8, 0x39#8] = 0x29B1#16 := by decide +kernel

theorem test_byteArrival_starts_a_frame :
    (after (.byteArrival 0xC3#8) State.reset).link.rx = .receiving ∧
      (after (.byteArrival 0x55#8) State.reset).link.rx = .hunt := by decide

theorem test_frame_of_readStatus_is_answered :
    ((match deliver (requestFrame 1 0x01 []) State.reset with
      | .next t => t.link.tx.map fun r => (r.node, r.code, r.status, r.payload.length)
      | .fault _ => none
      | .refused _ => none) = some (1, 0x01, .ok, 41)) := by decide +kernel

/-- A node at address 1 that holds all of a frame but its last byte. -/
def heldFrame (frame : List Byte) : State :=
  { State.reset with link := ⟨1, .receiving, frame.dropLast, true, none, false⟩ }

/-- START PRODUCTION to node 1 with a wrong check byte, to node 2, a reply of node 2, and START PRODUCTION broadcast. -/
def discardedFrames : List (List Byte) :=
  [(requestFrame 1 0x12 []).dropLast ++ [0#8], requestFrame 2 0x12 [],
    (⟨2, 0x12, .ok, [0#8, 0#8, 0#8, 0#8, 0#8], []⟩ : Reply).frame, requestFrame 0 0x12 []]

theorem test_discarded_frames_leave_hunt :
    ∀ f ∈ discardedFrames, after (.byteArrival (f.getLastD 0)) (heldFrame f) = (heldFrame f).hunting := by
  decide +kernel

theorem test_frameCheck_of_the_spec :
    frameCheck [0x31#8, 0x32#8, 0x33#8, 0x34#8, 0x35#8, 0x36#8, 0x37#8, 0x38#8, 0x39#8] = 0x29B1 := by decide +kernel

theorem test_gapTimerExpiry_abandons :
    (after .gapTimerExpiry (after (.byteArrival 0xC3#8) State.reset)).link.buffer = [] ∧
      (after .gapTimerExpiry (after (.byteArrival 0xC3#8) State.reset)).link.rx = .hunt := by decide

theorem test_replySent_returns_to_hunt :
    (after .replySent (after .readStatus State.reset)).link.rx = .hunt ∧
      (after .replySent (after .readStatus State.reset)).link.tx = none := by decide

theorem test_unknownRequest_is_answered : statusOf (.unknownRequest 0x20) State.reset = some .unknownRequest := by decide

theorem test_restart_waits_for_its_reply :
    (after .restart quiet).mode = .standby ∧ (after .restart quiet).tracker.status = .referenced ∧
      (after .replySent (after .restart quiet)).tracker = ⟨geo, 0, 0, 0, .unreferenced⟩ := by decide

theorem test_readStatus_length : (payloadOf .readStatus State.reset).map List.length = some 41 := by decide

/-! ### Angles and the tracker (chapter 1) -/

/-- The worked conversion of section 1.2. -/
theorem test_worked_conversion :
    carouselAngle geo 2500 = 16384 ∧ headOffset geo 7 = 7645 ∧ (headAngle geo 16384 7).toNat = 7539 ∧
      carouselAngle geo 2599 = 17032 ∧ (headAngle geo 17032 7).toNat = 8187 ∧ carouselAngle geo 2600 = 17039 ∧
      (headAngle geo 17039 7).toNat = 8194 ∧ stepSpan geo 2599 = 7 ∧ arrivalDistance geo 2599 .infeed 7 = 5 := by
  decide

/-- The step of the worked conversion raises the infeed arrival of head 7, which waits for its bottle (section
2.9). -/
theorem test_encoderForwardStep_brings_the_infeed :
    let t := after .encoderForwardStep (set7 .production 0 head7)
    (t.head 7).cycle = .waitBottle ∧ (t.head 7).timer = some ⟨.contactWindow, 200⟩ ∧ t.inFlight = 1 ∧
      t.tracker.count = 2600 := by decide +kernel

theorem test_encoderBackwardStep_wraps_and_leads :
    (after .encoderBackwardStep State.reset).tracker.count = 4095 ∧
      (after .encoderBackwardStep State.reset).tracker.lead = 1 := by decide

/-- Event 1 of the worked slip (section 1.8). -/
theorem test_indexMarkStep_slips :
    let t := after .indexMarkStep { quiet with tracker := ⟨geo, 9899, 0, 0, .referenced⟩ }
    t.tracker = ⟨geo, 0, 0, 1, .referenced⟩ ∧ t.alarms.indexSlip = true := by decide

theorem test_indexMarkStep_bands :
    (after .indexMarkStep { quiet with tracker := ⟨geo, 9991, 0, 1, .referenced⟩ }).tracker.slips = 0 ∧
      (after .indexMarkStep { quiet with tracker := ⟨geo, 7, 0, 1, .referenced⟩ }).tracker.slips = 0 ∧
      (after .indexMarkStep { quiet with tracker := ⟨geo, 8, 0, 1, .referenced⟩ }).tracker.status = .faulted := by
  decide

theorem test_quadratureError_halts_standby :
    (after .quadratureError quiet).mode = .halted ∧ (after .quadratureError quiet).alarms.encoderFault = true := by
  decide

theorem test_setGeometry :
    (after (.setGeometry geo) State.reset).tracker.geometry = geo ∧
      statusOf (.setGeometry { geo with headCount := 7 }) State.reset = some .badField ∧
      statusOf (.setGeometry { geo with latestClose := 8447 }) State.reset = some .badField ∧
      statusOf (.setGeometry { geo with latestClose := 8448 }) State.reset = some .ok := by decide

theorem test_readGeometry :
    payloadOf .readGeometry { quiet with tracker := ⟨geo, 2500, 0, 0, .referenced⟩ } =
      some (geo.encode ++ [1#8, 0xC4#8, 0x09#8, 0x00#8, 0x40#8, 0#8, 0#8, 0#8]) := by decide

/-! ### Heads (chapter 2) -/

theorem test_setHead :
    ((after (.setHead 7 3 50000) State.reset).head 7).factor = 50000 ∧
      statusOf (.setHead 63 7 200) State.reset = some .ok ∧ statusOf (.setHead 64 0 200) State.reset = some .badField ∧
      statusOf (.setHead 0 8 200) State.reset = some .badField ∧
      statusOf (.setHead 0 0 199) State.reset = some .badField ∧
      statusOf (.setHead 7 0 0) quiet = some .badField := by decide

theorem test_readHead :
    payloadOf (.readHead 7) quiet =
      some [7#8, 1#8, 3#8, 0x50#8, 0xC3#8, 2#8, 255#8, 1#8, 0#8, 0#8, 0#8, 0#8, 255#8, 0#8, 0#8, 0#8, 0#8, 0#8, 0#8,
        0#8, 0#8, 0#8] := by decide

theorem test_enableHeads_in_order :
    statusOf (.enableHeads 0x8000000000000000#64) quiet = some .badField ∧
      statusOf (.enableHeads 0x1#64) quiet = some .headUncalibrated ∧
      ((after (.enableHeads 0x80#64) quiet).head 7).faults = 0 := by decide

theorem test_disableHeads : ((after (.disableHeads 0x80#64) quiet).head 7).enable = .disabled ∧
    ((after (.disableHeads 0x80#64) quiet).head 7).faults = 1 := by decide

/-- Time 35 of the worked pass (section 2.9), and the context it latches. -/
theorem test_contactArrival_begins_the_fill :
    let t := after (.contactArrival 7)
      { set7 .production 1 (busy .waitBottle (some ⟨.contactWindow, 200⟩) none) with clock := 35 }
    (t.head 7).cycle = .pressurize ∧ (t.head 7).timer = some ⟨.pressurizeDwell, 120⟩ ∧
      (t.head 7).fill = some
        ⟨2, 500000000, 1200000, 498800000, 18000, 50000, 0, 0, 0, 0, 35, 0, FillFlags.clear⟩ ∧
      (t.output 7).opened = ⟨true, false, false, false⟩ := by decide

theorem test_contactLoss_bursts :
    let t := after (.contactLoss 7) (touched (set7 .production 1 (busy .fillTopUp none (some topUp))))
    (t.head 7).cycle = .aborted ∧ (t.head 7).timer = some ⟨.vent, 180⟩ ∧ (t.head 7).faults = 1 ∧
      t.reports.records.map Report.verdict = [.burst] := by decide

theorem test_contactWindowExpiry : ((after (.contactWindowExpiry 7)
    (set7 .production 1 (busy .waitBottle (some ⟨.contactWindow, 200⟩) none))).head 7).cycle = .idle := by decide

theorem test_pressurizeDwellExpiry :
    let t := after (.pressurizeDwellExpiry 7)
      (set7 .production 1 (busy .pressurize (some ⟨.pressurizeDwell, 120⟩) (some topUp)))
    (t.head 7).cycle = .fillSoft ∧ (t.output 7).opened = ⟨false, false, true, false⟩ := by decide

/-- The learning step of the worked edit race, order A (chapter 4): from 1,200,000 by -750. -/
theorem test_settleExpiry_learns :
    let t := after (.settleExpiry 7) (closing 499997000)
    t.correction 7 2 = 1199250 ∧ (t.head 7).cycle = .snift ∧ (t.head 7).timer = some ⟨.sniftDwell, 180⟩ := by decide

/-- The fill of R66 at V = 498,499,600 nL is UNDERFILL although its final volume rounds to the bound. -/
theorem test_sniftDwellExpiry_judges :
    let t := after (.sniftDwellExpiry 7) (sniffing 498499600)
    t.reports.records.map Report.verdict = [.underfill] ∧ t.reports.records.map Report.finalVolume = [498500] ∧
      (t.head 7).faults = 2 ∧ (t.head 7).cycle = .done := by decide

theorem test_ventDwellExpiry :
    let s := set7 .production 0 (busy .aborted (some ⟨.vent, 180⟩) none)
    let t := after (.ventDwellExpiry 7) { s with
      outputs := s.outputs.set 7 ⟨⟨false, false, false, true⟩, true, ⟨false, false, false, true⟩⟩ }
    (t.output 7).opened = Outputs.allOff ∧ (t.output 7).vent = false ∧ (t.head 7).cycle = .aborted := by decide

theorem test_millisecondTick_wraps :
    (after .millisecondTick { State.reset with clock := 0xFFFFFFFF#32 }).clock = 0 := by decide

/-- The lockout of the worked sequence at a threshold of 3 (section 2.6): the eighth report. -/
theorem test_lockout_at_the_threshold :
    let t := State.countFault 7 .underfill (set7 .production 1 { head7 with faults := 2 })
    (t.head 7).enable = .lockedOut ∧ (t.head 7).faults = 3 ∧ t.alarms.headLockout = true := by decide

/-! ### Dose arithmetic (chapter 3) -/

theorem test_flowmeterPulse_wraps :
    (after (.flowmeterPulse 7) { State.reset with lanes := State.reset.lanes.set 7 ⟨0xFFFF#16, 0⟩ }).lane 7 =
      ⟨0, 0⟩ := by decide

/-- Scan 1 of the two-scan close (chapter 3). -/
theorem test_bankScan_first_scan_of_the_close :
    let s := set7 .production 1 (busy .fillTopUp none (some topUp))
    let t := after (.bankScan 0) { s with lanes := s.lanes.set 7 ⟨1, 0xFFFF#16⟩ }
    (t.head 7).fill.map (fun c => (c.delivered, c.flow)) = some (491000000, 96250) ∧
      t.lane 7 = ⟨1, 1⟩ := by decide +kernel

theorem test_afterflow_of_the_close :
    afterflow { topUp with flow := 96250 } = 6767578 ∧ afterflow { topUp with flow := 11500, closingLag := 15000 } = 673828 ∧
      graceScans 4000 = 16 := by decide

/-- The conversions of R67. -/
theorem test_microlitres :
    [500008000, 1499, 1500, 499, 4294967295].map microlitres = [500008, 1, 2, 0, 4294967] ∧
      [-499, -500, -1200000].map microlitresSigned = [0, -1, -1200] := by decide

/-! ### Corrections (chapter 4) -/

/-- The worked steps of section 4.2, each from an entry of 1,202,000 nL. -/
theorem test_learning_steps :
    [(8000, 4), (-3000, 4), (-7, 2), (-15, 16)].map
        (fun p : Int × Nat => learningStep { product with gain := p.2 }
          { topUp with delivered := (500000000 + p.1).toNat }) = [2000, -750, 0, -15] ∧
      clampCorrection (1202000 + 19999000) = 20000000 := by decide

theorem test_readCorrectionForEdit :
    (after (.readCorrectionForEdit 7 2) quiet).reservation = some (7, 2) ∧
      payloadOf (.readCorrectionForEdit 7 2) quiet = some [0xB0#8, 0x04#8] ∧
      statusOf (.readCorrectionForEdit 7 3) quiet = some .slotEmpty := by decide

theorem test_writeCorrection :
    (after (.writeCorrection 7 2 1150) { quiet with reservation := some (7, 2) }).correction 7 2 = 1150000 ∧
      statusOf (.writeCorrection 7 2 1150) quiet = some .noReservation ∧
      (after (.writeCorrection 6 2 1150) { quiet with reservation := some (7, 2) }).reservation = none ∧
      (after (.writeCorrection 7 2 32767) { quiet with reservation := some (7, 2) }).correction 7 2 = 20000000 := by
  decide

theorem test_restoreCorrections :
    payloadOf (.restoreCorrections 2 (Vector.replicate 64 20001)) quiet = some [64#8] ∧
      (after (.restoreCorrections 2 (Vector.replicate 64 (-5))) quiet).correction 63 2 = -5000 := by decide

theorem test_readCorrections :
    (payloadOf (.readCorrections 2) quiet).map (fun p => (p.drop 14).take 2) = some [0xB0#8, 0x04#8] := by decide

/-! ### Recipes (chapter 5) -/

theorem test_loadRecipe :
    payloadOf (.loadRecipe 3 { product with pulseCeiling := 0, gain := 17 }) quiet = some [5#8] ∧
      ((after (.loadRecipe 3 { product with pulseCeiling := 0, gain := 17 }) quiet).slot 3).recipe =
        some { product with pulseCeiling := 1, gain := 16 } ∧
      statusOf (.loadRecipe 2 product) quiet = some .slotBound ∧
      statusOf (.loadRecipe 3 { product with topUpBand := 460001 }) quiet = some .badField := by decide

theorem test_readRecipe :
    (payloadOf (.readRecipe 2) quiet).map (fun p => (p.length, p.take 3)) = some (35, [2#8, 1#8, 1#8]) ∧
      payloadOf (.readRecipe 3) quiet = some [3#8, 0#8, 0#8] := by decide

theorem test_unloadRecipe :
    statusOf (.unloadRecipe 2) quiet = some .slotBound ∧ statusOf (.unloadRecipe 3) quiet = some .ok ∧
      statusOf (.unloadRecipe 8) quiet = some .badField := by decide

/-- In PRODUCTION a BIND RECIPE is held pending (R96), and its counts follow (R92, R93). -/
theorem test_bindRecipe_pending :
    let s := set7 .production 0 head7
    let t := after (.bindRecipe 0x80#64 3) { s with slots := s.slots.set 3 ⟨some product, 0⟩ }
    (t.head 7).pendingSlot = some 3 ∧ (t.head 7).active = some 2 ∧ (t.slot 2).bindings = 1 ∧ (t.slot 3).bindings = 1 ∧
      t.pendingChangeovers = 1 := by decide

/-! ### Valves (chapter 6) -/

/-- The terminals of head 9 in the worked sequence of chapter 6: in IDLE the INVERTED snift pilot is energized. -/
theorem test_setValveProfile_inverts :
    ((after (.setValveProfile 0 ⟨4000, 15000, 0, 0, 0, 1, 1⟩) State.reset).output 9).terminals =
        ⟨false, false, false, true⟩ ∧
      statusOf (.setValveProfile 0 ⟨32768, 0, 0, 0, 0, 0, 0⟩) State.reset = some .badField ∧
      statusOf (.setValveProfile 0 ⟨0, 0, 0, 0, 0, 0, 2⟩) State.reset = some .badField := by decide

theorem test_readValveProfile :
    payloadOf (.readValveProfile 0) State.reset = some [0#8, 0#8, 0#8, 0#8, 0#8, 0#8, 0#8, 0#8, 0#8, 0#8, 64#8] := by
  decide

theorem test_valvePowerLoss_halts :
    let t := after .valvePowerLoss (sniffing 500008000)
    t.mode = .halted ∧ t.alarms.valvePowerLost = true ∧ t.reports.records.map Report.verdict = [.halted] ∧
      (t.head 7).cycle = .idle := by decide +kernel

theorem test_valvePowerReturn :
    let t := after .valvePowerReturn (after .valvePowerLoss State.reset)
    t.drive = .powered ∧ t.mode = .halted ∧ t.valvePower = true := by decide +kernel

/-! ### Reports (chapter 7) -/

/-- Event 1 of the worked overflow, on a queue that is full: the number is taken, the record lost. -/
theorem test_overflow_counts_the_loss :
    let t := State.fileReport
      { State.reset with reports := ⟨List.replicate 256 (record 0), 1000, 0, 224⟩ } (record 0)
    t.reports.sequence = 1001 ∧ t.reports.lost = 1 ∧ t.alarms.reportOverflow = true ∧
      t.reports.records.length = 256 := by decide +kernel

theorem test_peekReports :
    (payloadOf (.peekReports 2) { State.reset with reports := ⟨[record 5, record 6, record 7], 8, 0, 224⟩ }).map
        (fun p => (p.length, p.take 10)) =
      some (45, [2#8, 5#8, 0#8, 0#8, 0#8, 7#8, 2#8, 0#8, 0#8, 0x28#8]) := by decide

theorem test_discardReports :
    (after (.discardReports 1) { State.reset with reports := ⟨[record 5, record 6], 7, 0, 224⟩ }).reports.records =
      [record 6] := by decide

theorem test_setReporting :
    payloadOf (.setReporting 240) State.reset = some [240#8, 0#8, 0#8] ∧
      statusOf (.setReporting 241) State.reset = some .badField := by decide

/-! ### Modes and alarms (chapter 8) -/

theorem test_startProduction :
    (after .startProduction quiet).mode = .production ∧
      statusOf .startProduction State.reset = some .geometryUnset ∧
      statusOf .startProduction { quiet with tracker := ⟨geo, 0, 0, 0, .unreferenced⟩ } = some .notReferenced := by
  decide

theorem test_stop :
    (after .stop (set7 .production 1 (busy .waitBottle (some ⟨.contactWindow, 200⟩) none))).mode = .draining ∧
      (after .stop (set7 .production 0 head7)).mode = .standby := by decide +kernel

/-- The variant HALT after event 3 of the worked drain: HALTED, then UNFILLED. -/
theorem test_halt_reports_in_head_order :
    let s := set7 .production 1 (busy .closing (some ⟨.settle, 30⟩) (some topUp))
    let t := after (.halt false) { s with
      heads := s.heads.set 13 { head7 with cycle := .skip, contactSeen := true } }
    t.reports.records.map (fun r => (r.head, r.verdict, r.sequence)) =
      [(7, .halted, 0#32), (13, .unfilled, 1#32)] ∧ t.mode = .halted ∧ t.inFlight = 0 := by decide +kernel

/-- Events 4 and 6 of the worked recovery from a fault. -/
theorem test_clearHalt :
    let s := { quiet with mode := .halted, tracker := ⟨geo, 0, 0, 2, .faulted⟩ }
    statusOf .clearHalt { s with valvePower := false } = some .noValvePower ∧
      (after .clearHalt s).tracker = ⟨geo, 0, 0, 0, .unreferenced⟩ ∧ (after .clearHalt s).mode = .standby := by decide

/-- Event 3 of the worked recovery from a fault. -/
theorem test_acknowledgeAlarms :
    payloadOf (.acknowledgeAlarms 0x1F#8)
        { quiet with
          tracker := ⟨geo, 0, 0, 2, .faulted⟩, valvePower := false, alarms := ⟨true, true, true, false, false⟩ } =
      some [6#8] ∧ statusOf (.acknowledgeAlarms 0x20#8) quiet = some .badField := by decide

theorem test_productReadyChange : (after (.productReadyChange true) State.reset).productReady = true := by decide

theorem test_resetLine :
    (after .resetLineAssert quiet).pins.resetHeld = true ∧
      (after (.resetLineRelease 5) (after .resetLineAssert quiet)).link.node = 5 ∧
      after .startProduction (after .resetLineAssert quiet) = after .resetLineAssert quiet := by decide

theorem test_powerOn_without_valve_power :
    let t := after (.powerOn ⟨3, false, true, Vector.replicate 64 false⟩) quiet
    t.mode = .halted ∧ t.alarms.valvePowerLost = true ∧ t.link.node = 3 ∧ t.productReady = true := by decide

/-! ### Calibration and cleaning (chapters 9 and 10) -/

theorem test_startCalibration :
    (after (.startCalibration 7 500000) quiet).cal.state = .armed ∧
      statusOf (.startCalibration 7 9999) quiet = some .badField ∧
      statusOf (.startCalibration 6 10000) quiet = some .headUncalibrated := by decide

/-- Events 7 and 8 of the worked calibration run. -/
theorem test_enterActualVolume :
    statusOf (.enterActualVolume 602100) completed = some .calImplausible ∧
      ((after (.enterActualVolume 502100) completed).head 7).factor = 2018 ∧
      payloadOf (.enterActualVolume 502100) completed = some [0xD0#8, 0x07#8, 0xE2#8, 0x07#8] := by decide

theorem test_endCalibration_abandons :
    let t := after .endCalibration (calibrating .dosing none 1 (busy .fillTopUp none (some topUp)))
    t.cal.last.map CalResult.outcome = some .abandoned ∧ t.mode = .standby ∧ t.cal.state = .idle := by decide

theorem test_startCleaning :
    ((after (.startCleaning 2000 500 2) cleanable).head 3).cycle = .cleanOpen ∧
      ((after (.startCleaning 2000 500 2) cleanable).output 3).opened = ⟨false, true, true, false⟩ ∧
      statusOf (.startCleaning 99 0 1) cleanable = some .badField ∧
      statusOf (.startCleaning 100 0 1) State.reset = some .nothingEnabled := by decide

/-- Event 2 of the worked cleaning run. -/
theorem test_openPhaseExpiry :
    let t := after .openPhaseExpiry (cleaning .openPhase 1 0 .cleanOpen)
    t.cleaning.phase = .pausePhase ∧ t.cleaning.cyclesDone = 1 ∧ t.cleaning.noFlow[3] = false ∧
      t.cleaning.noFlow[4] = true ∧ (t.head 3).cycle = .cleanPause := by decide

/-- Event 5 of the worked cleaning run. -/
theorem test_pausePhaseExpiry :
    let t := after .pausePhaseExpiry (cleaning .pausePhase 2 2 .cleanPause)
    t.cleaning.result = .complete ∧ t.mode = .standby ∧ (t.head 4).cycle = .idle := by decide

theorem test_readCleaningVolumes :
    (payloadOf .readCleaningVolumes (cleaning .openPhase 1 0 .cleanOpen)).map (fun p => (p.length, (p.drop 36).take 4)) =
      some (280, [70#8, 0#8, 0#8, 0#8]) := by decide +kernel

/-! ### The hypotheses of the statements are met -/

theorem witness_StepRunsTheFrontCommand :
    State.pending { State.reset with pending := [.stop, .halt true] } = .stop :: [.halt true] ∧
      State.reset.pending = [] := by decide

theorem witness_RequestsTurnedAway :
    isRequest .readStatus = true ∧ isRequest (.halt false) = true ∧ isRequest (.unknownRequest 0) = true ∧
      (after .resetLineAssert quiet).running = false ∧
      (after .readStatus quiet).running = true ∧ (after .readStatus quiet).link.rx = .transmitting ∧
      (after (.powerOn ⟨0, true, true, Vector.replicate 64 false⟩) quiet).running = true ∧
      (after (.powerOn ⟨0, true, true, Vector.replicate 64 false⟩) quiet).link.rx ≠ .transmitting ∧
      (after (.powerOn ⟨0, true, true, Vector.replicate 64 false⟩) quiet).link.node = 0 := by decide

theorem witness_RequestEncodingRoundTrip :
    (Instr.loadRecipe 255 product).wellFormed = true ∧ Instr.loadRecipe 255 product ≠ .halt true ∧
      encodeRequest (.loadRecipe 255 product) = some (0x0A, leBytes 1 255 ++ product.encode) ∧
      (Instr.writeCorrection 63 7 (-32768)).wellFormed = true ∧
      encodeRequest (.writeCorrection 63 7 (-32768)) = some (0x10, [63#8, 7#8, 0#8, 0x80#8]) := by decide

theorem witness_FramesRunTheirRequests :
    (Instr.setHead 63 7 65535).wellFormed = true ∧ Instr.setHead 63 7 65535 ≠ .halt true ∧
      encodeRequest (.setHead 63 7 65535) = some (0x06, [63#8, 7#8, 255#8, 255#8]) ∧ quiet.running = true ∧
      quiet.link.rx = .hunt ∧ quiet.link.node ≠ 0 := by decide

theorem witness_UnknownAndMisSizedRequestsAreAnswered :
    quiet.listening = true ∧ quiet.link.rx = .hunt ∧ requestLength 0 = none ∧ requestLength 32 = none ∧
      requestLength 255 = none ∧ requestLength 31 = some 0 ∧ [0#8].length ≠ 0 ∧ requestLength 1 = some 0 ∧
      (List.replicate 400 0#8).length ≤ 400 := by decide +kernel

theorem witness_BytesByReceiveState :
    let frame : List Byte := [0xC3#8, 1#8, 1#8, 0x91#8]
    let receiving : State := { quiet with link := ⟨1, .receiving, frame, true, none, false⟩ }
    quiet.running = true ∧ quiet.link.rx = .hunt ∧ 0xC2#8 ≠ 0xC3#8 ∧
      (after .readStatus quiet).link.rx = .transmitting ∧ receiving.running = true ∧ receiving.link.rx = .receiving ∧
      (frame ++ [1#8]).length = 5 ∧ fieldAt (frame ++ [1#8]) 3 2 = 401 ∧ fieldAt (frame ++ [0#8]) 3 2 = 145 := by decide

theorem witness_DiscardedFrames :
    (∀ f ∈ discardedFrames, (heldFrame f).running = true ∧ (heldFrame f).link.rx = .receiving ∧
      (heldFrame f).link.buffer ++ [f.getLastD 0] = f) ∧
      discardedFrames.map (fun f => (f.getD 1 0).toNat) = [1, 2, 130, 0] ∧
      discardedFrames.map List.length = [7, 7, 13, 7] ∧
      discardedFrames.map (fun f => decide (frameCheck ((f.drop 1).take (f.length - 3)) =
        256 * (f.getD (f.length - 2) 0).toNat + (f.getD (f.length - 1) 0).toNat)) = [false, true, true, true] := by
  decide +kernel

theorem witness_RefusedRequestsChangeNothing :
    isRequest (.readRecipe 8) = true ∧ quiet.listening = true ∧ exec (.readRecipe 8) quiet = .next (after (.readRecipe 8) quiet) ∧
      (after (.readRecipe 8) quiet).link.tx.map Reply.status = some .badField ∧
      (set7 .production 0 head7).listening = true ∧ (set7 .production 0 head7).idleMode = false ∧
      (after (.writeCorrection 6 2 1) { quiet with reservation := some (7, 2) }).link.tx.map Reply.status =
        some .noReservation := ⟨by decide, by decide, rfl, by decide, by decide, by decide, by decide⟩

theorem witness_RestartTakesEffectAtItsReply :
    quiet.listening = true ∧ (after .readStatus quiet).running = true ∧
      (after .readStatus quiet).link.rx = .transmitting ∧ (after .readStatus quiet).link.restartPending = false ∧
      (after .restart quiet).link.rx = .transmitting ∧ (after .restart quiet).link.restartPending = true := by decide

theorem witness_ReadStatusAndReadGeometry :
    quiet.listening = true ∧ quiet.inFlight ≤ 64 ∧ quiet.pendingChangeovers ≤ 64 ∧ quiet.cal.last = none ∧
      completed.listening = true ∧ completed.cal.last = some ⟨7, .complete, 248800, 497600000, none, none, none⟩ ∧
      quiet.tracker.geometry.wellFormed = true ∧ quiet.tracker.count < quiet.tracker.geometry.cpr ∧
      quiet.tracker.geometry.cpr ≤ 65535 ∧ quiet.tracker.lead ≤ 65535 ∧ quiet.tracker.slips ≤ 255 := by decide

theorem witness_SetGeometryReplacesTheRecord :
    quiet.listening = true ∧ quiet.idleMode = true ∧ geometryAcceptable geo = true ∧
      (∀ h, (quiet.head h).enable ≠ .disabled → h.val < geo.headCount) ∧
      geometryAcceptable { geo with headCount := 8 } = true ∧ geometryAcceptable { geo with headCount := 7 } = false ∧
      ¬(∀ h, ((quiet.putHead 8 head7).head h).enable ≠ .disabled → h.val < 8) ∧
      (set7 .production 0 head7).idleMode = false := by decide

theorem witness_EncoderStepsMoveTheCounts :
    quiet.running = true ∧ quiet.tracker.status ≠ .faulted ∧ quiet.fillingMode = false ∧
      (set7 .production 0 head7).fillingMode = true ∧ (set7 .production 0 head7).tracker.lead = 0 ∧
      State.fillingMode { set7 .draining 1 head7 with tracker := ⟨geo, 0, 1, 0, .referenced⟩ } = true ∧
      quiet.tracker.count < quiet.tracker.geometry.cpr ∧ 0 + 1 ≤ geo.reverseTolerance ∧
      geo.reverseTolerance < 64 + 1 ∧ State.running { quiet with tracker := ⟨geo, 0, 0, 0, .faulted⟩ } = true := by decide

/-- Head 7 in a state at a count from which the forward step raises one boundary for it (section 1.2; the boundaries lie
8,192, 24,576 and 40,960 au ahead of the head's zero). -/
def atBoundary (count : Nat) (x : Head) : State :=
  { set7 .production 1 x with tracker := ⟨geo, count, 0, 0, .referenced⟩ }

theorem witness_CrossingBringsEachHeadItsArrivals :
    (∀ b, raisesAt geo 2599 b 7 = decide (b = .infeed)) ∧ (∀ b, raisesAt geo 5099 b 7 = decide (b = .latestClose)) ∧
      (∀ b, raisesAt geo 7599 b 7 = decide (b = .discharge)) ∧ (∀ b, raisesAt geo 2598 b 7 = false) ∧
      (atBoundary 2599 head7).running = true ∧ (atBoundary 2599 head7).mode = .production ∧
      (atBoundary 2599 head7).tracker.status ≠ .faulted ∧ (atBoundary 2599 head7).tracker.lead = 0 ∧
      (atBoundary 2599 head7).productReady = true ∧ ((atBoundary 2599 head7).head 7).enable = .enabled ∧
      ((atBoundary 2599 head7).head 7).active = some 2 ∧ (touched (atBoundary 2599 head7)).contact 7 = true ∧
      ((atBoundary 5099 (busy .fillTopUp none (some topUp))).head 7).fill = some topUp ∧
      ((atBoundary 7599 (busy .skip none none)).head 7).cycle = .skip ∧
      (atBoundary 7599 (busy .snift none (some topUp))).reports.records.length + 64 ≤ 256 := by
  refine ⟨fun b => ?_, fun b => ?_, fun b => ?_, fun b => ?_, ?_⟩
  · cases b <;> decide
  · cases b <;> decide
  · cases b <;> decide
  · cases b <;> decide
  · decide

/-- DRAINING with the discharge arrival of head 7 next. -/
def drainingAt7599 (n : Nat) (x : Head) : State := { atBoundary 7599 x with mode := .draining, inFlight := n }

theorem witness_CrossingInDraining :
    let last := drainingAt7599 1 (busy .snift none (some topUp))
    let other := drainingAt7599 2 (busy .snift none (some topUp))
    let two : State := { other with heads := other.heads.set 6 { head7 with cycle := .waitBottle } }
    last.running = true ∧ last.fillingMode = true ∧ last.tracker.status ≠ .faulted ∧ last.tracker.lead = 0 ∧
      last.flightCounted ∧ crossingEndsDraining last ∧ last.reports.records.length + 128 ≤ 256 ∧
      (last.head 7).cycle.holdsFill = true ∧ (last.head 7).fill = some topUp ∧
      two.flightCounted ∧ ¬crossingEndsDraining two := by
  unfold State.flightCounted crossingEndsDraining
  decide +kernel

/-- A geometry whose discharge and infeed angles lie 1 au apart across angle 0, with the coarsest encoder. -/
def wrapGeo : Geometry := { geo with cpr := 1024, infeed := 0, discharge := 65535 }

theorem witness_DischargeAndInfeedInOneStep :
    let s : State := { set7 .production 1 (busy .snift none (some topUp)) with tracker := ⟨wrapGeo, 138, 0, 0, .referenced⟩ }
    geometryAcceptable wrapGeo = true ∧ raisesAt wrapGeo 138 .discharge 7 = true ∧ raisesAt wrapGeo 138 .infeed 7 = true ∧
      raisesAt wrapGeo 138 .latestClose 7 = false ∧ s.running = true ∧ s.fillingMode = true ∧ s.mode ≠ .draining ∧
      (s.head 7).cycle.holdsFill = true := by decide +kernel

theorem test_discharge_comes_before_infeed :
    let s : State := { set7 .production 1 (busy .snift none (some topUp)) with tracker := ⟨wrapGeo, 138, 0, 0, .referenced⟩ }
    let t := after .encoderForwardStep s
    (t.head 7).cycle = .waitBottle ∧ t.inFlight = 1 ∧ t.reports.records.map Report.verdict = [.shortSnift] := by
  decide +kernel

theorem witness_IndexMarkReferencesAndChecks :
    let at_ := fun (c n : Nat) (st : TrackerStatus) => ({ quiet with tracker := ⟨geo, c, 0, n, st⟩ } : State)
    quiet.running = true ∧ quiet.fillingMode = false ∧ (at_ 0 0 .unreferenced).tracker.status = .unreferenced ∧
      (at_ 0 0 .faulted).tracker.status = .faulted ∧ ((7 + 1) % geo.cpr ≤ geo.indexTolerance) ∧
      (geo.cpr ≤ (9991 + 1) % geo.cpr + geo.indexTolerance) ∧
      ¬((8 + 1) % geo.cpr ≤ geo.indexTolerance ∨ geo.cpr ≤ (8 + 1) % geo.cpr + geo.indexTolerance) ∧
      (at_ 8 0 .referenced).tracker.slips = 0 ∧ (at_ 8 1 .referenced).tracker.slips = 1 ∧
      (set7 .production 0 head7).fillingMode = true ∧ (set7 .production 0 head7).tracker.status = .referenced := by decide

theorem witness_QuadratureErrorFaultsByMode :
    quiet.running = true ∧ quiet.tracker.status ≠ .faulted ∧ quiet.mode = .standby ∧
      (set7 .cleaning 0 head7).mode = .cleaning ∧ (set7 .draining 1 head7).fillingMode = true ∧
      State.running { quiet with tracker := ⟨geo, 0, 0, 0, .faulted⟩ } = true := by decide

theorem witness_SetHeadWritesProfileAndFactor :
    quiet.listening = true ∧ quiet.idleMode = true ∧ (set7 .production 0 head7).idleMode = false ∧
      (quiet.head 7).enable ≠ .disabled ∧ (quiet.head 6).enable = .disabled ∧ (63 : Nat) = (63 : HeadId).val ∧
      (7 : Nat) = (7 : ProfileId).val := by decide

theorem witness_EnableAndDisableHeads :
    let named := fun (m : HeadMask) (h : HeadId) => m.getLsbD h.val = true
    let s := set7 .production 0 { head7 with active := none }
    quiet.listening = true ∧ quiet.tracker.geometry.headCount ≠ 0 ∧
      (∃ h, named 0x1000000000000000#64 h ∧ quiet.tracker.geometry.headCount ≤ h.val) ∧
      ¬(∃ h, named 0x80#64 h ∧ quiet.tracker.geometry.headCount ≤ h.val) ∧
      (∃ h, named 0x40#64 h ∧ (quiet.head h).factor = 0) ∧ ¬(∃ h, named 0x80#64 h ∧ (quiet.head h).factor = 0) ∧
      s.listening = true ∧ s.fillingMode = true ∧
      (∃ h, named 0x80#64 h ∧ (s.head h).active = none ∧ (s.head h).pendingSlot = none) := by decide +kernel

theorem witness_ReadHeadAnswersTheHeadRecord :
    (closing 499997000).listening = true ∧ ((closing 499997000).head 7).fill = some (settled 499997000 FillFlags.clear) ∧
      ((closing 499997000).head 6).fill = none ∧ (63 : Nat) = (63 : HeadId).val := by decide

theorem witness_ContactArrivalBeginsTheFill :
    let waiting := set7 .draining 2 (busy .waitBottle (some ⟨.contactWindow, 200⟩) none)
    let slotless := set7 .production 1 { busy .waitBottle (some ⟨.contactWindow, 200⟩) none with active := none }
    waiting.running = true ∧ waiting.contact 7 = false ∧ waiting.fillingMode = true ∧
      (waiting.head 7).cycle = .waitBottle ∧ (waiting.head 7).pendingSlot = none ∧ (waiting.head 7).active = some 2 ∧
      waiting.keepsFilling = true ∧ (slotless.head 7).active = none ∧ (slotless.head 7).pendingSlot = none ∧
      slotless.keepsFilling = true ∧ ((set7 .production 0 (busy .skip none none)).head 7).cycle = .skip ∧
      ((set7 .production 1 { busy .waitBottle none none with pendingSlot := some 3 }).head 7).pendingSlot = some 3 := by
  decide

theorem witness_CalibrationRunStartsAndEnds :
    let armed := calibrating .armed none 0 head7
    let running := calibrating .dosing none 1 (busy .snift (some ⟨.sniftDwell, 180⟩) (some topUp))
    armed.running = true ∧ armed.contact 7 = false ∧ armed.mode = .calibration ∧ armed.cal.state = .armed ∧
      armed.cal.head = some 7 ∧ armed.cal.head ≠ some 6 ∧ (armed.head 7).cycle = .idle ∧
      (armed.head 7).active = some 2 ∧ (armed.head 7).pendingSlot = none ∧ armed.cal.target = some 500000 ∧
      running.running = true ∧ (running.head 7).fill = some topUp ∧ (running.head 7).cycle.holdsFill = true ∧
      (running.head 7).timer.map Timer.kind = some .sniftDwell ∧ (touched running).contact 7 = true := by decide

theorem witness_ContactLossEndsTheFill :
    let filling := touched (set7 .production 1 (busy .fillFast none (some topUp)))
    filling.running = true ∧ filling.contact 7 = true ∧ filling.keepsFilling = true ∧
      (filling.head 7).fill = some topUp ∧ (filling.head 7).cycle.holdsFill = true ∧
      (filling.head 7).cycle ≠ .snift ∧ ((sniffing 500000000).head 7).cycle = .snift ∧
      (touched (set7 .draining 2 (busy .closing none (some topUp)))).keepsFilling = true ∧
      ((touched quiet).head 7).cycle.holdsFill = false := by decide

theorem witness_DwellAndWindowExpiries :
    let waiting := set7 .production 1 (busy .waitBottle (some ⟨.contactWindow, 200⟩) none)
    let pressing := set7 .production 1 (busy .pressurize (some ⟨.pressurizeDwell, 120⟩) (some topUp))
    let venting := set7 .production 0 (busy .aborted (some ⟨.vent, 180⟩) none)
    waiting.running = true ∧ waiting.keepsFilling = true ∧ (waiting.head 7).cycle = .waitBottle ∧
      (waiting.head 7).timer.map Timer.kind = some .contactWindow ∧ (pressing.head 7).cycle = .pressurize ∧
      (pressing.head 7).timer.map Timer.kind = some .pressurizeDwell ∧ (venting.head 7).cycle = .aborted ∧
      (venting.head 7).timer.map Timer.kind = some .vent ∧ (quiet.head 7).timer = none := by decide

theorem witness_SettleExpiryLearnsFromTheError :
    let s := closing 499997000
    s.running = true ∧ (s.head 7).cycle = .closing ∧ (s.head 7).timer.map Timer.kind = some .settle ∧
      (s.head 7).fill = some (settled 499997000 FillFlags.clear) ∧ s.fillingMode = true ∧ s.keepsFilling = true ∧
      (s.slot 2).recipe.map Recipe.sniftDwell = some 180 ∧
      ((s.putSlot 2 ⟨some { product with sniftDwell := 0 }, 1⟩).slot 2).recipe.map Recipe.sniftDwell = some 0 ∧
      (calibrating .dosing none 1 (s.head 7)).mode = .calibration := by decide

theorem witness_SniftExpiryJudgesTheFill :
    let s := sniffing 498499600
    s.running = true ∧ s.keepsFilling = true ∧ (s.head 7).cycle = .snift ∧
      (s.head 7).timer.map Timer.kind = some .sniftDwell ∧
      (s.head 7).fill = some (settled 498499600 FillFlags.clear) := by decide

theorem witness_HeadEventsTouchOneHead :
    (6 : HeadId) ≠ 7 ∧ (closing 499997000).mode ≠ .draining ∧ 1 < (set7 .draining 2 head7).inFlight ∧
      exec (.settleExpiry 7) (closing 499997000) = .next (after (.settleExpiry 7) (closing 499997000)) :=
  ⟨by decide, by decide, by decide, rfl⟩

theorem witness_TicksPulsesAndReadyLine : quiet.running = true := by decide

/-- Head 7 before a scan with its counter at a value. -/
def beforeScan (c : CycleState) (f : FillContext) (counter : BitVec 16) : State :=
  let s := set7 .production 1 (busy c none (some f))
  { s with lanes := s.lanes.set 7 ⟨counter, 0xFFFF#16⟩ }

theorem witness_ScanMetersAndDecides :
    let s := beforeScan .fillTopUp topUp 1
    s.running = true ∧ s.mode ≠ .draining ∧ (7 : HeadId).val / 16 = (0 : BankId).val ∧
      (s.head 7).cycle.isFillStage = true ∧ (s.head 7).fill = some topUp ∧
      -- the two-scan close: R = 7,800,000 against A = 6,767,578 at scan 1
      (498800000 - 491000000 : Nat) = 7800000 ∧ ¬7800000 ≤ 6767578 ∧
      -- a stuck meter: no pulse, no grace, the zero-scan count at the limit of 391
      (100 * 1000 + 255) / 256 = 391 ∧ (beforeScan .fillTopUp { topUp with zeroScans := 390 } 0xFFFF#16).lane 7 =
        ⟨0xFFFF#16, 0xFFFF#16⟩ ∧
      (beforeScan .fillFast topUp 1).mode ≠ .calibration ∧
      (calibrating .dosing none 1 (busy .fillSoft none (some topUp))).mode = .calibration := by decide

/-- Head 7 with a stuck meter in a mode. -/
def stuckIn (m : Mode) : State := { beforeScan .fillTopUp { topUp with zeroScans := 390 } 0xFFFF#16 with mode := m }

theorem witness_ScanAbortsForAStuckMeter :
    let two : State := { stuckIn .draining with
      inFlight := 2, heads := (stuckIn .draining).heads.set 20 { head7 with cycle := .waitBottle } }
    (stuckIn .draining).stuckAt 7 = true ∧ (∀ g : HeadId, g ≠ 7 → (stuckIn .draining).stuckAt g = false) ∧
      (stuckIn .draining).flightCounted ∧ scanEndsDraining 0 (stuckIn .draining) ∧
      two.flightCounted ∧ ¬scanEndsDraining 0 two ∧ two.stuckAt 7 = true ∧ (stuckIn .calibration).stuckAt 7 = true ∧
      (stuckIn .draining).reports.records.length + 128 ≤ 256 := by
  unfold State.flightCounted scanEndsDraining
  decide +kernel

theorem test_stuck_meter_is_reported_and_ends_draining :
    let t := after (.bankScan 0) (stuckIn .draining)
    t.mode = .standby ∧ t.reports.records.map Report.verdict = [.meterStuck] ∧ (t.head 7).faults = 2 ∧
      (t.head 7).cycle = .idle := by decide +kernel

theorem witness_ScanInClosingOnlyMeters :
    let s := beforeScan .closing topUp 1
    let d : State := { s with mode := .draining }
    s.running = true ∧ s.mode ≠ .draining ∧ d.flightCounted ∧ (7 : HeadId).val / 16 = (0 : BankId).val ∧
      (s.head 7).cycle = .closing ∧ (s.head 7).fill = some topUp := by
  unfold State.flightCounted
  decide +kernel

theorem witness_ScanWithoutFillsOnlySamples :
    let s := cleaning .openPhase 1 0 .cleanOpen
    s.running = true ∧ (∀ h, (s.head h).fill = none) ∧
      ∀ h : HeadId, s.cleaning.counters[h] + 65535 * (s.head h).factor < 2 ^ 64 := by decide

theorem witness_ScanOfAnUnmeteredHead :
    let s := beforeScan .fillTopUp topUp 1
    let p := beforeScan .pressurize topUp 1
    s.running = true ∧ (6 : HeadId).val / 16 = (0 : BankId).val ∧ (s.head 6).cycle.isFillStage = false ∧
      (s.head 6).cycle ≠ .closing ∧ (s.head 6).cycle ≠ .cleanOpen ∧ ¬scanEndsDraining 0 s ∧
      (p.head 7).cycle.isFillStage = false ∧ (p.head 7).cycle ≠ .closing ∧ (p.head 7).fill = some topUp ∧
      scanEndsDraining 0 (stuckIn .draining) ∧ ((stuckIn .draining).head 6).cycle.isFillStage = false := by
  unfold scanEndsDraining
  decide +kernel

theorem witness_WriteAndRestoreCorrections :
    quiet.listening = true ∧ quiet.idleMode = true ∧ (quiet.slot 2).recipe ≠ none ∧ (quiet.slot 3).recipe = none ∧
      quiet.reservation ≠ some (7, 2) ∧ State.reservation { quiet with reservation := some (7, 2) } = some (7, 2) ∧
      (set7 .production 0 head7).idleMode = false ∧ (63 : Nat) = (63 : HeadId).val ∧ (7 : Nat) = (7 : SlotId).val := by
  decide

theorem witness_ReadCorrectionsAnswersTheColumn :
    quiet.listening = true ∧ -20000000 ≤ quiet.correction 7 2 ∧ quiet.correction 7 2 ≤ 20000000 ∧
      (7 : Nat) = (7 : SlotId).val := by decide

theorem witness_LoadAndUnloadRecipe :
    quiet.listening = true ∧ 0 < (quiet.slot 2).bindings ∧ (quiet.slot 3).bindings = 0 ∧ recipeLoadable product = true ∧
      recipeLoadable { product with softStart := 250000, topUpBand := 250000 } = true ∧
      recipeLoadable { product with softStart := 250001, topUpBand := 0 } = false := by decide

theorem witness_ReadRecipeAndReadValveProfile :
    quiet.listening = true ∧ (quiet.slot 2).recipe = some product ∧ product.wellFormed = true ∧
      (quiet.slot 3).recipe = none ∧ (quiet.slot 2).bindings ≤ 64 ∧ quiet.profiles[(3 : ProfileId)].closingLag ≤ 32767 := by
  decide

theorem witness_BindRecipeByMode :
    let named := fun (m : HeadMask) (h : HeadId) => m.getLsbD h.val = true
    quiet.listening = true ∧ (∃ h, named 0x80#64 h ∧ (quiet.head h).enable = .enabled) ∧
      ¬(∃ h, named 0x40#64 h ∧ ((quiet.head h).enable = .enabled ∨ (quiet.head h).fill.isSome = true ∨
        (quiet.cal.state ≠ .idle ∧ quiet.cal.head = some h))) ∧
      (∃ h, named 0x1000000000000000#64 h ∧ quiet.tracker.geometry.headCount ≤ h.val) ∧
      ¬(∃ h, named 0x800000000000000#64 h ∧ quiet.tracker.geometry.headCount ≤ h.val) ∧
      (quiet.slot 2).recipe ≠ none ∧ (quiet.slot 3).recipe = none ∧ (set7 .production 0 head7).fillingMode = true ∧
      (set7 .calibration 1 (busy .closing none (some topUp))).mode = .calibration := by decide +kernel

theorem witness_SetValveProfileReplacesTheFields :
    quiet.listening = true ∧ quiet.idleMode = true ∧ (32767 : Nat) ≤ 32767 ∧ (7 : Nat) = (7 : ProfileId).val ∧
      (set7 .production 0 head7).idleMode = false := by decide

theorem witness_ValvePowerLossAndReturn :
    (sniffing 500000000).running = true ∧ (sniffing 500000000).pins.valvePower = true ∧
      (sniffing 500000000).mode ≠ .calibration ∧ CalibrationFitsMode (sniffing 500000000) ∧
      (after .valvePowerLoss quiet).running = true ∧ (after .valvePowerLoss quiet).pins.valvePower = false := by
  refine ⟨by decide, by decide, by decide, ⟨by decide, fun _ => by decide, fun h => absurd ?_ h⟩, by decide +kernel,
    by decide +kernel⟩
  decide

theorem witness_PeekReportsAnswersTheOldest :
    let s : State := { State.reset with reports := ⟨[record 5, record 6], 7, 0, 224⟩ }
    s.listening = true ∧ s.reports.records[1]? = some (record 6) ∧ 1 < min 16 s.reports.records.length := by decide

theorem witness_DiscardAndSetReporting :
    quiet.listening = true ∧ (256 : Nat) ≤ 256 ∧ 240 ∈ [192, 208, 224, 240] ∧ 241 ∉ [192, 208, 224, 240] := by decide

theorem witness_StartProductionAndClearHalt :
    quiet.listening = true ∧ (quiet.mode = .standby ∨ quiet.mode = .draining) ∧
      quiet.tracker.geometry.headCount ≠ 0 ∧ quiet.tracker.status = .referenced ∧
      (∃ h, (quiet.head h).enable = .enabled) ∧
      (∀ h, (quiet.head h).enable = .enabled → (quiet.head h).active ≠ none) ∧
      ¬(∀ h, ((set7 .standby 0 { head7 with active := none }).head h).enable = .enabled →
        ((set7 .standby 0 { head7 with active := none }).head h).active ≠ none) ∧
      ¬(∃ h, (State.reset.head h).enable = .enabled) ∧ (set7 .halted 0 head7).mode = .halted ∧
      (set7 .halted 0 head7).valvePower = true ∧ State.valvePower { set7 .halted 0 head7 with valvePower := false } = false := by
  decide +kernel

theorem witness_StopByMode :
    (set7 .production 0 head7).listening = true ∧ (set7 .production 0 head7).inFlight = 0 ∧
      (set7 .production 1 head7).inFlight ≠ 0 ∧ (cleaning .openPhase 1 0 .cleanOpen).mode = .cleaning ∧
      (cleaning .openPhase 1 0 .cleanOpen).listening = true ∧ (set7 .draining 1 head7).listening = true := by decide

theorem witness_LastHeadOutEndsDraining :
    let s := set7 .draining 1 (busy .waitBottle (some ⟨.contactWindow, 200⟩) none)
    s.running = true ∧ s.mode = .draining ∧ s.inFlight = 1 ∧ (s.head 7).cycle = .waitBottle ∧
      (s.head 7).timer.map Timer.kind = some .contactWindow := by decide

/-- The last head in flight in DRAINING. -/
def lastOut (x : Head) : State := set7 .draining 1 x

theorem witness_LastHeadOutByAFill :
    let sn := touched (lastOut (busy .snift (some ⟨.sniftDwell, 180⟩) (some topUp)))
    let cl := State.putSlot (lastOut (busy .closing (some ⟨.settle, 30⟩) (some topUp))) 2
      ⟨some { product with sniftDwell := 0 }, 1⟩
    let slotless := lastOut { busy .waitBottle (some ⟨.contactWindow, 200⟩) none with active := none }
    sn.running = true ∧ sn.mode = .draining ∧ sn.inFlight = 1 ∧ (sn.head 7).fill = some topUp ∧
      (sn.head 7).cycle.holdsFill = true ∧ sn.contact 7 = true ∧ (sn.head 7).cycle = .snift ∧
      (sn.head 7).timer.map Timer.kind = some .sniftDwell ∧ (cl.head 7).cycle = .closing ∧
      (cl.head 7).timer.map Timer.kind = some .settle ∧ (cl.recipe 2).sniftDwell = 0 ∧ cl.inFlight = 1 ∧
      slotless.contact 7 = false ∧ (slotless.head 7).active = none ∧ (slotless.head 7).pendingSlot = none ∧
      (slotless.head 7).cycle = .waitBottle := by
  refine ⟨by decide, by decide, by decide, by decide, by decide, by decide, by decide, by decide, by decide, by decide,
    by rfl, by decide, by decide, by decide, by decide, by decide⟩

theorem witness_LastHeadOutByScanAndCrossing :
    let s := stuckIn .draining
    let x : State := { drainingAt7599 1 (busy .snift none (some topUp)) with
      tracker := ⟨{ geo with infeed := 8292, latestClose := 24676 }, 7599, 0, 0, .referenced⟩ }
    s.inFlight = 1 ∧ s.stuckAt 7 = true ∧ (s.lane 7).counter = (s.lane 7).lastSample ∧
      (∀ g : HeadId, g ≠ 7 → (s.head g).cycle.inFlight = false) ∧ topUp.delivered ≤ 4294967295 ∧
      x.inFlight = 1 ∧ x.tracker.status ≠ .faulted ∧ x.tracker.lead = 0 ∧
      ∀ g : HeadId, ∀ b ∈ [Boundary.infeed, .latestClose, .discharge],
        raisesAt x.tracker.geometry x.tracker.count b g = decide (g = 7 ∧ b = .discharge) := by
  decide +kernel

theorem test_last_head_out_ends_draining :
    ∀ i ∈ [Instr.sniftDwellExpiry 7, .contactLoss 7],
      (after i (touched (lastOut (busy .snift (some ⟨.sniftDwell, 180⟩) (some topUp))))).mode = .standby := by
  decide +kernel

theorem witness_HaltReportsInHeadOrder :
    CalibrationFitsMode (closing 499997000) ∧ (closing 499997000).mode ≠ .calibration ∧
      (closing 499997000).listening = true ∧ (closing 499997000).running = true ∧
      (closing 499997000).link.rx ≠ .transmitting := by
  refine ⟨⟨by decide, fun _ => by decide, fun h => absurd ?_ h⟩, by decide, by decide, by decide, by decide⟩
  decide

theorem witness_AcknowledgeClearsWhatIsCured :
    quiet.listening = true ∧ (0x20#8).getLsbD 5 = true ∧
      ¬((0x1F#8).getLsbD 5 = true ∨ (0x1F#8).getLsbD 6 = true ∨ (0x1F#8).getLsbD 7 = true) ∧
      (∃ h, ((set7 .standby 0 { head7 with enable := .lockedOut }).head h).enable = .lockedOut) := by decide

theorem witness_PowerOnAndResetLine :
    (after .resetLineAssert quiet).running = false ∧ actsHeld .encoderForwardStep = false ∧
      actsHeld .readStatus = false := by decide

theorem witness_StartAndEndCalibration :
    let dosing := calibrating .dosing none 1 (busy .fillTopUp none (some topUp))
    quiet.listening = true ∧ quiet.mode = .standby ∧ (quiet.head 7).factor ≠ 0 ∧ (quiet.head 7).active ≠ none ∧
      (quiet.head 6).factor = 0 ∧ ((set7 .standby 0 { head7 with active := none }).head 7).active = none ∧
      dosing.listening = true ∧ dosing.mode = .calibration ∧ dosing.cal.state = .dosing ∧ dosing.cal.head = some 7 ∧
      (dosing.head 7).fill = some topUp ∧ completed.mode = .calibration ∧ completed.cal.state ≠ .dosing := by decide

theorem witness_EnterActualVolumeWritesTheFactor :
    completed.listening = true ∧ completed.mode = .calibration ∧ completed.cal.state = .awaitActual ∧
      completed.cal.head = some 7 ∧ completed.cal.last = some ⟨7, .complete, 248800, 497600000, none, none, none⟩ ∧
      9 * 497600000 ≤ 10 * (447840 * 1000) ∧ 10 * (547360 * 1000) ≤ 11 * 497600000 ∧
      ¬10 * (547361 * 1000) ≤ 11 * 497600000 := by decide

theorem witness_StartCleaningDrivesTheEnabledHeads :
    cleanable.listening = true ∧ cleanable.mode = .standby ∧ (∃ h, (cleanable.head h).enable = .enabled) ∧
      (∀ h, (cleanable.head h).cycle = .idle) ∧ (∀ h, (State.reset.head h).enable ≠ .enabled) ∧
      (set7 .production 0 head7).mode ≠ .standby := by decide

theorem witness_CleaningPhasesFollowThePlan :
    let s := cleaning .pausePhase 2 2 .cleanPause
    s.running = true ∧ s.mode = .cleaning ∧ s.cleaning.plan = some ⟨2000, 500, 2⟩ ∧ s.cleaning.phase = .pausePhase ∧
      (2 : Nat) ≤ s.cleaning.cycle ∧ (cleaning .pausePhase 1 1 .cleanPause).cleaning.cycle < 2 ∧
      (cleaning .openPhase 1 0 .cleanOpen).cleaning.phase = .openPhase := by decide

theorem witness_ReadCleaningVolumesAnswersTheRecord :
    let s := cleaning .openPhase 1 0 .cleanOpen
    s.listening = true ∧ s.cleaning.plan = some ⟨2000, 500, 2⟩ ∧ s.cleaning.cycle ≤ 255 ∧ s.cleaning.cyclesDone ≤ 255 ∧
      quiet.cleaning.plan = none := by decide

/-! ### The invariants at a state with a fill in flight -/

/-- Head 7 in SNIFT in PRODUCTION, its SNIFT output open, one report waiting, the dwell's expiry at the front. -/
def lively : State :=
  let s := sniffing 498499600
  { s with
    outputs := s.outputs.set 7 ⟨⟨false, false, false, true⟩, false, ⟨false, false, false, true⟩⟩
    reports := ⟨[record 5], 6, 0, 224⟩
    pending := [.sniftDwellExpiry 7] }

theorem witness_lively_steps : ∃ t, step lively = .next t := ⟨after (.sniftDwellExpiry 7) { lively with pending := [] }, rfl⟩

theorem witness_QueueLaw : QueueLaw lively := by
  refine ⟨by decide, by decide, fun r h => ?_⟩
  have : some (record 5) = some r := h
  cases this
  decide

theorem witness_CorrectionTableLaw : CorrectionTableLaw lively :=
  ⟨by decide +kernel, fun h k e => nomatch (show (none : Option (HeadId × SlotId)) = some (h, k) from e)⟩

theorem witness_MeterFactorLaw : MeterFactorLaw lively := ⟨by decide +kernel, by decide +kernel, by decide⟩

theorem witness_CleaningFitsMode : CleaningFitsMode lively := by
  refine ⟨by decide, by decide, by decide, by decide⟩

theorem witness_CalibrationFitsMode : CalibrationFitsMode lively :=
  ⟨by decide, by decide, fun h => absurd (by decide) h⟩

theorem witness_ServiceAndPowerLaw : ServiceAndPowerLaw lively :=
  ⟨witness_CleaningFitsMode, witness_CalibrationFitsMode, fun _ => by decide⟩

theorem witness_TrackerLaw : TrackerLaw lively := by
  refine ⟨by decide, by decide, by decide, by decide, .inr (by decide +kernel)⟩

theorem witness_StoredSettingsLaw : StoredSettingsLaw lively := by
  refine ⟨fun k r h => ?_, by decide, by decide +kernel, by decide +kernel⟩
  have loaded : (lively.slot k).recipe = none ∨ (lively.slot k).recipe = some product := by
    clear h; revert k; decide +kernel
  rcases loaded with e | e <;> rw [e] at h <;> cases h
  refine ⟨?_, ?_, ?_, ?_, ?_, ?_, ?_, ?_, ?_, ?_, ?_, ?_, ?_, ?_, ?_, ?_, ?_, ?_, ?_⟩ <;> decide

theorem witness_ValveLaw : ValveLaw lively := ⟨by decide +kernel, fun _ => by decide +kernel⟩

theorem witness_CountsLaw : CountsLaw lively :=
  ⟨by decide +kernel, by decide +kernel, by decide +kernel, by decide +kernel, by decide +kernel⟩

theorem witness_HeadsLaw : HeadsLaw lively := by
  refine ⟨witness_CleaningFitsMode, witness_CalibrationFitsMode, fun h => ?_⟩
  by_cases e : h = 7
  · subst e
    exact ⟨⟨by decide, by decide⟩, by decide, ⟨by decide, by decide⟩, by decide⟩
  · have rest : ∀ h : HeadId, h ≠ 7 → lively.head h = Head.powerOn ∧ (lively.output h).vent = false ∧
        (lively.output h).opened = Outputs.allOff := by decide +kernel
    obtain ⟨a, b, c⟩ := rest h e
    simp only [headFits, Head.timerFits, a, b, c]
    exact ⟨⟨by decide, by decide⟩, by decide, ⟨by decide, by decide⟩, by rfl⟩

theorem witness_FillsLaw : FillsLaw lively := by
  refine ⟨witness_HeadsLaw, witness_CountsLaw, witness_CorrectionTableLaw, fun h c e => ?_, by decide +kernel⟩
  have fills : (lively.head h).fill = none ∨ (h = 7 ∧ (lively.head h).fill = some (settled 498499600 FillFlags.clear)) := by
    clear e; revert h; decide +kernel
  rcases fills with f | ⟨rfl, f⟩ <;> rw [f] at e <;> cases e
  exact ⟨by decide, by decide, by decide, product, by decide, by decide⟩

/-! ### A calibration in DOSING -/

/-- Head 7 in FILL_TOPUP in a calibration run, its narrow output open. -/
def dosing : State :=
  let s := calibrating .dosing none 1 (busy .fillTopUp none (some topUp))
  { s with outputs := s.outputs.set 7 ⟨⟨false, false, true, false⟩, false, ⟨false, false, true, false⟩⟩ }

theorem witness_CalibrationFitsMode_dosing : CalibrationFitsMode dosing :=
  ⟨by decide, fun h => absurd h (by decide), fun _ => ⟨by decide, 500000, by decide, by decide, by decide⟩⟩

theorem witness_HeadsLaw_dosing : HeadsLaw dosing := by
  refine ⟨⟨by decide, by decide, by decide, by decide⟩, witness_CalibrationFitsMode_dosing, fun h => ?_⟩
  by_cases e : h = 7
  · subst e
    exact ⟨.inr ⟨by decide, by decide, by decide⟩, by decide, ⟨by decide, by decide⟩, by decide⟩
  · have rest : ∀ h : HeadId, h ≠ 7 → dosing.head h = Head.powerOn ∧ (dosing.output h).vent = false ∧
        (dosing.output h).opened = Outputs.allOff := by decide +kernel
    obtain ⟨a, b, c⟩ := rest h e
    simp only [headFits, Head.timerFits, a, b, c]
    exact ⟨.inl (by decide), by decide, ⟨by decide, by decide⟩, by rfl⟩

theorem witness_HaltInCalibration :
    dosing.mode = .calibration ∧ dosing.listening = true ∧ dosing.running = true ∧ dosing.link.rx ≠ .transmitting ∧
      dosing.pins.valvePower = true := by decide

theorem test_halt_abandons_a_calibration :
    let t := after (.halt false) dosing
    t.mode = .halted ∧ t.reports.records = [] ∧ t.cal.state = .idle ∧
      t.cal.last.map (fun r => (r.outcome, r.measured)) = some (.abandoned, 490900000) := by decide +kernel

end Sys2Proof.Tests
end

section
/-! SUPPORT. The requests and events of exec by their carriers, what an operation leaves of the tracker and of the
stored settings, and the statement that every step keeps the laws about them. -/

namespace Sys2Proof.Machine

/-! ### How exec carries a request -/

/-- A request row is the transaction of what its block answers (R175). -/
theorem exec_of_isRequest {i : Instr} (hi : isRequest i = true) (s : State) :
    ∃ code, exec i s = .next (transact code (answerRequest i) s) := by
  cases i with
  | halt broadcast =>
    cases broadcast with
    | true => exact absurd hi (by simp [isRequest])
    | false => exact ⟨_, rfl⟩
  | _ => first | exact ⟨_, rfl⟩ | exact absurd hi (by simp [isRequest, encodeRequest])

/-! ### What an operation leaves of the tracker and the settings -/

/-- The tracker stays, and PRODUCTION and DRAINING are not entered. -/
structure TrackerKept (s t : State) : Prop where
  tracker : t.tracker = s.tracker
  filling : t.fillingMode = true → s.fillingMode = true

/-- The valve profiles, the near-full threshold and the recipes stay, and a fault count within R17 stays within it. -/
structure SettingsKept (s t : State) : Prop where
  profiles : t.profiles = s.profiles
  threshold : t.reports.threshold = s.reports.threshold
  recipes : ∀ k, (t.slot k).recipe = (s.slot k).recipe
  faults : ∀ h, (s.head h).faults ≤ 15 → (t.head h).faults ≤ 15

/-- Tracker and settings stay: what most operations do. -/
structure LeavesSettings (s t : State) : Prop extends TrackerKept s t, SettingsKept s t

theorem SettingsKept.refl (s : State) : SettingsKept s s := ⟨rfl, rfl, fun _ => rfl, fun _ => id⟩

theorem SettingsKept.trans {s t u : State} (h₁ : SettingsKept s t) (h₂ : SettingsKept t u) : SettingsKept s u :=
  ⟨h₂.profiles.trans h₁.profiles, h₂.threshold.trans h₁.threshold, fun k => (h₂.recipes k).trans (h₁.recipes k),
    fun h hf => h₂.faults h (h₁.faults h hf)⟩

/-- What keeps the settings of a state keeps those of one with the same profiles, queue, slots and heads. -/
theorem SettingsKept.before {s t u : State} (h : SettingsKept t u) (hprofiles : t.profiles = s.profiles := by rfl)
    (hreports : t.reports = s.reports := by rfl) (hslots : t.slots = s.slots := by rfl)
    (hheads : t.heads = s.heads := by rfl) : SettingsKept s u :=
  SettingsKept.trans ⟨hprofiles, by rw [hreports], fun k => by unfold State.slot; rw [hslots],
    fun g => by unfold State.head; rw [hheads]; exact id⟩ h

theorem TrackerKept.trans {s t u : State} (h₁ : TrackerKept s t) (h₂ : TrackerKept t u) : TrackerKept s u :=
  ⟨h₂.tracker.trans h₁.tracker, fun h => h₁.filling (h₂.filling h)⟩

namespace LeavesSettings

theorem refl (s : State) : LeavesSettings s s := ⟨⟨rfl, id⟩, .refl s⟩

theorem trans {s t u : State} (h₁ : LeavesSettings s t) (h₂ : LeavesSettings t u) : LeavesSettings s u :=
  ⟨h₁.toTrackerKept.trans h₂.toTrackerKept, h₁.toSettingsKept.trans h₂.toSettingsKept⟩

/-- An update that writes neither mode nor any of the fields, and heads only with bounded fault counts. -/
theorem of_fields {s t : State} (htracker : t.tracker = s.tracker) (hmode : t.mode = s.mode)
    (hprofiles : t.profiles = s.profiles) (hthreshold : t.reports.threshold = s.reports.threshold)
    (hslots : t.slots = s.slots) (hfaults : ∀ h, (s.head h).faults ≤ 15 → (t.head h).faults ≤ 15) :
    LeavesSettings s t :=
  ⟨⟨htracker, fun h => by unfold State.fillingMode at *; rwa [← hmode]⟩,
    ⟨hprofiles, hthreshold, fun k => by unfold State.slot; rw [hslots], hfaults⟩⟩

/-- Fields other than tracker, mode, profiles, reports, slots and heads may be written. -/
theorem elsewhere {s t u : State} (h : LeavesSettings s t) (htracker : u.tracker = t.tracker := by rfl)
    (hmode : u.mode = t.mode := by rfl) (hprofiles : u.profiles = t.profiles := by rfl)
    (hreports : u.reports = t.reports := by rfl) (hslots : u.slots = t.slots := by rfl)
    (hheads : u.heads = t.heads := by rfl) : LeavesSettings s u :=
  h.trans (of_fields htracker hmode hprofiles (by rw [hreports]) hslots fun g => by unfold State.head; rw [hheads]; exact id)

/-- A mode outside PRODUCTION and DRAINING may be written, too. -/
theorem leaveFilling {s t u : State} (h : LeavesSettings s t) (hmode : u.mode ≠ .production ∧ u.mode ≠ .draining)
    (htracker : u.tracker = t.tracker := by rfl) (hprofiles : u.profiles = t.profiles := by rfl)
    (hreports : u.reports = t.reports := by rfl) (hslots : u.slots = t.slots := by rfl)
    (hheads : u.heads = t.heads := by rfl) : LeavesSettings s u := by
  have kept : SettingsKept t u := (SettingsKept.refl u).before (hprofiles := hprofiles)
    (hreports := hreports) (hslots := hslots) (hheads := hheads)
  exact ⟨⟨htracker.trans h.tracker, fun hf => absurd hf (by simp [State.fillingMode, hmode])⟩, h.toSettingsKept.trans kept⟩

theorem foldl {α : Type} {f : State → α → State} (hf : ∀ u a, LeavesSettings u (f u a)) :
    ∀ (l : List α) (s : State), LeavesSettings s (l.foldl f s)
  | [], s => refl s
  | a :: l, s => (hf s a).trans (foldl hf l (f s a))

/-! ### The shared operations -/

theorem updHead (s : State) (h : HeadId) {f : Head → Head} (hf : (f (s.head h)).faults ≤ max 15 (s.head h).faults) :
    LeavesSettings s (s.updHead h f) := by
  refine of_fields rfl rfl rfl rfl rfl fun g hg => ?_
  rw [State.head_updHead]
  split
  · next e => subst e; omega
  · exact hg

theorem putOutput (s : State) (h : HeadId) (x : HeadOutputs) : LeavesSettings s (s.putOutput h x) := (refl s).elsewhere

theorem enter (s : State) (h : HeadId) (c : CycleState) (t : Option Timer) : LeavesSettings s (s.enter h c t) := by
  refine of_fields rfl rfl rfl rfl rfl fun g hg => ?_
  rw [State.head_enter]
  split
  · next e => subst e; exact hg
  · exact hg

theorem goIdle (s : State) (h : HeadId) : LeavesSettings s (s.goIdle h) := by
  unfold State.goIdle
  exact ((updHead s h (le_max_right _ _)).trans (putOutput _ h _)).trans (enter _ h _ _)

theorem clearHeads (s : State) : LeavesSettings s s.clearHeads := by
  refine of_fields (by simp) (by simp) (by simp) (by simp) (by simp) fun g hg => ?_
  rw [State.head_clearHeads]; exact hg

theorem fileReport (s : State) (r : Report) : LeavesSettings s (s.fileReport r) := by
  rw [State.fileReport_eq]
  refine of_fields rfl rfl rfl ?_ rfl fun _ => id
  unfold ReportQueue.filed ReportQueue.stored
  split <;> rfl

theorem nextFaults_le {n : Nat} (hn : n ≤ 15) (v : Verdict) : nextFaults v n ≤ 15 := by
  unfold nextFaults; split <;> omega

theorem countFault (s : State) (h : HeadId) (v : Verdict) : LeavesSettings s (s.countFault h v) := by
  rw [State.countFault_eq]
  refine of_fields rfl rfl rfl rfl rfl fun g hg => ?_
  show ((s.heads.set h (countedHead s.tracker.geometry.lockoutThreshold v (s.head h)))[g]).faults ≤ 15
  rw [vector_set_get]
  split
  · next e => subst e; exact nextFaults_le hg v
  · exact hg

theorem reportFill (s : State) (h : HeadId) (v : Verdict) : LeavesSettings s (s.reportFill h v) := by
  unfold State.reportFill
  split
  · exact refl s
  · exact ((fileReport s _).trans (updHead _ h (le_max_right _ _))).trans (countFault _ h v)

theorem reportSkipped (s : State) (h : HeadId) : LeavesSettings s (s.reportSkipped h) := by
  unfold State.reportSkipped State.reportUnfilled
  dsimp only
  split
  · exact (fileReport s _).trans (countFault _ h _)
  · exact refl s

theorem reportHalted (s : State) (h : HeadId) : LeavesSettings s (s.reportHalted h) := by
  have halted : LeavesSettings s (State.reportHalted.halted h s) := by
    unfold State.reportHalted.halted
    split
    · exact refl s
    · exact reportFill s h _
  unfold State.reportHalted
  split
  all_goals first | exact halted | exact reportSkipped s h | exact refl s

theorem endDraining (s : State) : LeavesSettings s s.endDraining :=
  (((refl s).leaveFilling (u := s.setMode .standby) ⟨by simp, by simp⟩).trans (foldl reportSkipped allHeads _)).trans (clearHeads _)

theorem judgeDrain (s : State) : LeavesSettings s s.judgeDrain := by
  unfold State.judgeDrain
  split
  · exact endDraining s
  · exact refl s

theorem leaveFlight (s : State) (h : HeadId) (c : CycleState) (t : Option Timer) :
    LeavesSettings s (s.leaveFlight h c t) := (enter s h c t).trans (judgeDrain _)

theorem leaveToIdle (s : State) (h : HeadId) : LeavesSettings s (s.leaveToIdle h) := (goIdle s h).trans (judgeDrain _)

theorem assignSlots (s : State) (h : HeadId) (a p : Option SlotId) : LeavesSettings s (s.assignSlots h a p) := by
  refine ⟨⟨by simp, fun hf => by simpa [State.fillingMode] using hf⟩,
    ⟨by simp, by simp, fun k => by simp, fun g hg => ?_⟩⟩
  rw [State.head_assignSlots]
  split
  · next e => subst e; exact hg
  · exact hg

theorem adopt (s : State) (h : HeadId) : LeavesSettings s (s.adopt h) := by
  unfold State.adopt
  split
  · exact assignSlots s h _ _
  · exact refl s

theorem enterPressurize (s : State) (h : HeadId) : LeavesSettings s (s.enterPressurize h) := by
  unfold State.enterPressurize
  dsimp only
  split
  · exact refl s
  · split
    · exact ((adopt s h).trans (updHead _ h (le_max_right _ _))).trans (enter _ h _ _)
    · exact ((adopt s h).trans (updHead _ h (le_max_right _ _))).trans (enter _ h _ _)

theorem enterClosing (s : State) (h : HeadId) (late : Bool) : LeavesSettings s (s.enterClosing h late) := by
  unfold State.enterClosing
  split
  · exact refl s
  · exact (updHead s h (le_max_right _ _)).trans (enter _ h _ _)

theorem abortFill (s : State) (h : HeadId) (v : Verdict) : LeavesSettings s (s.abortFill h v) := by
  unfold State.abortFill
  split
  · exact refl s
  · exact ((reportFill s h v).trans (putOutput _ h _)).trans (leaveFlight _ h _ _)

theorem endFill (s : State) (h : HeadId) (v : Verdict) : LeavesSettings s (s.endFill h v) :=
  (reportFill s h v).trans (leaveToIdle _ h)

theorem endRun (s : State) (h : HeadId) (o : CalOutcome) (u : CalState) : LeavesSettings s (s.endRun h o u) := by
  unfold State.endRun
  split
  · exact refl s
  · exact (goIdle s h).elsewhere

theorem finishSnift (s : State) (h : HeadId) : LeavesSettings s (s.finishSnift h) := by
  unfold State.finishSnift State.completeRun
  split
  · exact refl s
  · split
    · split
      · exact refl s
      · exact endRun s h _ _
    · exact (reportFill s h _).trans (leaveFlight _ h _ _)

theorem learn (s : State) (h : HeadId) (c : FillContext) : LeavesSettings s (s.learn h c) := by
  rw [(s.learn_spec h c).1]; exact (refl s).elsewhere

theorem finishSettle (s : State) (h : HeadId) : LeavesSettings s (s.finishSettle h) := by
  unfold State.finishSettle
  split
  · exact refl s
  · next c _ =>
    dsimp only
    have learned : LeavesSettings s (if s.mode = .calibration then s
        else (s.learn h c).updHead h fun x => { x with fill := some (learnedContext (s.recipe c.slot) c) }) := by
      split
      · exact refl s
      · exact (learn s h c).trans (updHead _ h (le_max_right _ _))
    split
    · exact learned.trans (finishSnift _ h)
    · exact learned.trans (enter _ h _ _)

/-! ### Halts, the calibration and the cleaning -/

theorem abandonRun (s : State) : LeavesSettings s s.abandonRun := by
  unfold State.abandonRun
  split
  · split
    · exact endRun s _ _ _
    · exact refl s
  · exact refl s

theorem endCalibration (s : State) : LeavesSettings s s.endCalibration := (abandonRun s).elsewhere

theorem haltHeads (s : State) : LeavesSettings s s.haltHeads := (foldl reportHalted allHeads s).trans (clearHeads _)

theorem haltAll (s : State) : LeavesSettings s s.haltAll := by
  have halted := (endCalibration s).trans (haltHeads s.endCalibration)
  unfold State.haltAll
  generalize s.endCalibration.haltHeads = t at halted ⊢
  exact halted.leaveFilling ⟨by simp, by simp⟩

theorem releaseDriven (s : State) : LeavesSettings s s.releaseDriven := foldl goIdle _ s

theorem driveTo (s : State) (c : CycleState) : LeavesSettings s (s.driveTo c) := foldl (fun u h => enter u h c none) _ s

theorem afterService_notFilling (s : State) : s.afterService ≠ .production ∧ s.afterService ≠ .draining := by
  unfold State.afterService; split <;> decide

theorem endCleaningEarly (s : State) : LeavesSettings s s.endCleaningEarly := by
  have released := releaseDriven s
  unfold State.endCleaningEarly
  generalize s.releaseDriven = t at released ⊢
  exact released.elsewhere

theorem endCycle (s : State) (plan : CleaningPlan) : LeavesSettings s (s.endCycle plan) := by
  have released := releaseDriven s
  unfold State.endCycle State.nextCycle State.completeCleaning
  split
  · exact trans (refl s).elsewhere (driveTo _ _)
  · generalize s.releaseDriven = t at released ⊢
    exact released.leaveFilling (afterService_notFilling s)

theorem endOpenPhase (s : State) (plan : CleaningPlan) : LeavesSettings s (s.endOpenPhase plan) := by
  unfold State.endOpenPhase
  dsimp only
  split
  · exact trans (refl s).elsewhere (endCycle _ plan)
  · exact trans (refl s).elsewhere (driveTo _ _)

theorem toHunt (s : State) : LeavesSettings s s.toHunt := (refl s).elsewhere

theorem dropTerminals (s : State) : LeavesSettings s s.dropTerminals :=
  (refl s).elsewhere (by simp) (by simp) (by simp) (by simp) (by simp) (by simp)

theorem losePower (s : State) : LeavesSettings s s.losePower := by
  have dropped := dropTerminals s
  unfold State.losePower
  generalize s.dropTerminals = t at dropped ⊢
  exact trans dropped.elsewhere (haltAll _)

theorem deriveTerminalsWhere (s : State) (p : Head → Bool) : LeavesSettings s (s.deriveTerminalsWhere p) :=
  (refl s).elsewhere (by simp) (by simp) (by simp) (by simp) (by simp) (by simp)

theorem regainPower (s : State) : LeavesSettings s s.regainPower := by
  unfold State.regainPower
  refine trans ?_ (deriveTerminalsWhere _ _)
  exact (refl s).elsewhere

theorem holdLine (s : State) :
    LeavesSettings s { s.dropTerminals with pins := { s.pins with resetHeld := true } } := by
  have dropped := dropTerminals s
  generalize s.dropTerminals = t at dropped ⊢
  exact dropped.elsewhere

/-! ### What the heads do -/

theorem beginPass (s : State) (h : HeadId) : LeavesSettings s (s.beginPass h) := by
  unfold State.beginPass
  dsimp only
  split
  · exact (updHead s h (le_max_right _ _)).trans (enter _ h _ _)
  · split
    · exact enterPressurize s h
    · split
      · exact enter s h _ _
      · exact refl s

theorem infeed (s : State) (h : HeadId) : LeavesSettings s (s.infeed h) := by
  unfold State.infeed
  split
  all_goals first | exact beginPass s h | exact (goIdle s h).trans (beginPass _ h) | exact refl s

theorem latestClose (s : State) (h : HeadId) : LeavesSettings s (s.latestClose h) := by
  unfold State.latestClose
  split
  · exact enterClosing s h true
  · exact refl s

theorem discharge (s : State) (h : HeadId) : LeavesSettings s (s.discharge h) := by
  unfold State.discharge
  split
  all_goals first
    | exact leaveToIdle s h | exact (reportSkipped s h).trans (goIdle _ h) | exact endFill s h _ | exact goIdle s h
    | exact refl s

theorem takeArrival (s : State) (a : Arrival) : LeavesSettings s (s.takeArrival a) := by
  unfold State.takeArrival
  split
  · split
    · exact infeed s _
    · exact latestClose s _
    · exact discharge s _
  · exact refl s

theorem cross (s : State) (c : Nat) : LeavesSettings s (s.cross c) :=
  trans (refl s).elsewhere (foldl takeArrival _ _)

theorem startRun (s : State) (h : HeadId) : LeavesSettings s (s.startRun h) := by
  unfold State.startRun
  split
  · exact refl s
  · exact (enterPressurize s h).elsewhere

theorem contactCame (s : State) (h : HeadId) : LeavesSettings s (s.contactCame h) := by
  unfold State.contactCame
  split
  · split
    · exact startRun s h
    · exact refl s
  · split
    · split
      · exact (updHead s h (le_max_right _ _)).trans (leaveFlight _ h _ _)
      · exact enterPressurize s h
    · exact updHead s h (le_max_right _ _)
    all_goals exact refl s

theorem burst (s : State) (h : HeadId) : LeavesSettings s (s.burst h) := by
  unfold State.burst
  split
  · exact endRun s h _ _
  · exact abortFill s h _

theorem contactWent (s : State) (h : HeadId) : LeavesSettings s (s.contactWent h) := by
  unfold State.contactWent
  split
  case h_6 =>
    split
    · exact endRun s h _ _
    · exact endFill s h _
  all_goals first | exact burst s h | exact refl s

/-! ### The scan -/

theorem scanLanes (s : State) (b : BankId) : LeavesSettings s (s.scanLanes b) := by
  refine of_fields (by simp) (by simp) (by simp) (by simp) (by simp) fun g hg => ?_
  have metered : (s.meteredHead g).faults = (s.head g).faults := by unfold State.meteredHead; split <;> rfl
  show ((Vector.ofFn fun h : HeadId => if h.val / 16 = b.val then s.meteredHead h else s.head h)[g]).faults ≤ 15
  rw [vector_ofFn_get]
  split
  · rwa [metered]
  · exact hg

theorem takeDecision (s : State) (h : HeadId) (d : Decision) : LeavesSettings s (s.takeDecision d h) := by
  cases d with
  | stay => exact refl s
  | close => exact enterClosing s h false
  | toTopUp => exact enter s h _ _
  | toFast => exact enter s h _ _
  | abortStuck =>
    unfold State.takeDecision State.stuckAbort
    dsimp only
    split
    · exact endRun s h _ _
    · exact abortFill s h _

theorem scanBank (s : State) (b : BankId) : LeavesSettings s (s.scanBank b) := by
  have moved := (scanLanes s b).trans (foldl (fun u h => takeDecision u h (s.decision h)) (s.movedBy b) _)
  exact trans moved.elsewhere (foldl (fun u h => takeDecision u h .abortStuck) _ _)

end LeavesSettings
end Sys2Proof.Machine
end

section
/-! SUPPORT. The requests and the encoder events on tracker and settings, and the laws of both through every step. -/

namespace Sys2Proof.Machine

namespace LeavesSettings

/-! ### Requests that leave tracker and settings -/

theorem setHead (head profile factor : Nat) (s : State) : LeavesSettings s (setHead head profile factor s).1 := by
  unfold Machine.setHead
  split
  · split
    · split
      · next h p _ _ _ => exact (updHead s h (f := fun x => { x with profile := p, factor := factor }) (le_max_right _ _)).elsewhere
      · exact refl s
    · exact refl s
  · exact refl s

theorem setEnable (s : State) (mask : HeadMask) {f : Head → Head} (hf : ∀ x : Head, (f x).faults ≤ max 15 x.faults) :
    LeavesSettings s (s.setEnable mask f) := by
  refine of_fields (by simp) (by simp) (by simp) (by simp) (by simp) fun g hg => ?_
  have := hf (s.head g)
  rw [State.head_setEnable]
  split <;> omega

theorem enableHeads (mask : HeadMask) (s : State) : LeavesSettings s (enableHeads mask s).1 := by
  unfold Machine.enableHeads
  split
  · exact refl s
  · split
    · exact refl s
    · split
      · exact refl s
      · dsimp only [accept]; exact setEnable s mask fun _ => Nat.zero_le _

theorem bindHead (target : Option SlotId) (s : State) (h : HeadId) : LeavesSettings s (bindHead target s h) := by
  have later : ∀ k, LeavesSettings s (bindLater k s h) := by
    intro k
    unfold bindLater
    dsimp only
    split <;> exact assignSlots s h _ _
  unfold Machine.bindHead bindNow
  split
  · exact assignSlots s h _ _
  · split
    case h_6 =>
      split
      · exact later _
      · exact assignSlots s h _ _
    all_goals first | exact assignSlots s h _ _ | exact later _

theorem bindRecipe (mask : HeadMask) (slot : Nat) (s : State) : LeavesSettings s (bindRecipe mask slot s).1 := by
  have bound : ∀ target, LeavesSettings s (bindMask mask target s) := fun target => foldl (bindHead target) _ s
  unfold Machine.bindRecipe
  split
  · split
    · exact refl s
    · split
      · exact refl s
      · exact bound _
  · split
    · split
      · exact refl s
      · exact bound _
    · exact refl s

theorem readCorrectionForEdit (head slot : Nat) (s : State) :
    LeavesSettings s (readCorrectionForEdit head slot s).1 := by
  unfold Machine.readCorrectionForEdit
  split
  · split
    · exact (refl s).elsewhere
    · exact refl s
  · exact refl s

theorem writeCorrection (head slot : Nat) (value : Int) (s : State) :
    LeavesSettings s (writeCorrection head slot value s).1 := by
  unfold Machine.writeCorrection
  split
  · next h k _ _ =>
    dsimp only
    generalize decide (s.reservation = some (h, k)) = granted
    cases granted <;> exact (refl s).elsewhere
  · exact refl s

theorem dropReservationOn (k : SlotId) (s : State) : LeavesSettings s (s.dropReservationOn k) := by
  unfold State.dropReservationOn
  split
  · split
    · exact (refl s).elsewhere
    · exact refl s
  · exact refl s

theorem clearColumn (k : SlotId) (s : State) : LeavesSettings s (s.clearColumn k) :=
  trans (refl s).elsewhere (dropReservationOn k _)

theorem restoreCorrections (slot : Nat) (values : Vector Int 64) (s : State) :
    LeavesSettings s (restoreCorrections slot values s).1 := by
  unfold Machine.restoreCorrections
  split
  · split
    · split
      · exact trans (refl s).elsewhere (dropReservationOn _ _)
      · exact refl s
    · exact refl s
  · exact refl s

theorem stopRequest (s : State) : LeavesSettings s (stopRequest s).1 := by
  unfold Machine.stopRequest
  split
  · next hm =>
    have drains : LeavesSettings s (s.setMode .draining) :=
      ⟨⟨rfl, fun _ => by simp [State.fillingMode, hm]⟩, ⟨rfl, rfl, fun _ => rfl, fun _ => id⟩⟩
    exact drains.trans (judgeDrain _)
  · have ended := endCleaningEarly s
    dsimp only [accept]
    generalize s.endCleaningEarly = t at ended ⊢
    exact ended.leaveFilling (afterService_notFilling s)
  all_goals exact refl s

theorem startCleaning (openTime pauseTime cycles : Nat) (s : State) :
    LeavesSettings s (startCleaning openTime pauseTime cycles s).1 := by
  unfold Machine.startCleaning
  split
  · split
    · exact refl s
    · split
      · exact refl s
      · dsimp only [accept]
        refine trans ?_ (driveTo _ _)
        exact (refl s).leaveFilling ⟨by simp, by simp⟩
  · exact refl s

theorem startCalibration (head target : Nat) (s : State) : LeavesSettings s (startCalibration head target s).1 := by
  unfold Machine.startCalibration
  split
  · split
    · exact refl s
    · split
      · exact refl s
      · split
        · exact refl s
        · split
          · exact refl s
          · dsimp only [accept]; exact (refl s).leaveFilling ⟨by simp, by simp⟩
  · exact refl s

theorem enterActualVolume (volume : Nat) (s : State) : LeavesSettings s (enterActualVolume volume s).1 := by
  unfold Machine.enterActualVolume
  split
  · split
    · exact refl s
    · split
      · dsimp only
        split
        · next h run _ _ _ =>
          exact (updHead s h (f := fun x => { x with factor := newFactor (s.head h).factor (volume * 1000) run.measured })
            (le_max_right _ _)).elsewhere
        · exact refl s
      · exact refl s
  · exact refl s

theorem endCalibrationRequest (s : State) : LeavesSettings s (endCalibrationRequest s).1 := by
  have ended := endCalibration s
  unfold Machine.endCalibrationRequest
  split
  · dsimp only [accept]
    generalize s.endCalibration = t at ended ⊢
    exact ended.leaveFilling (afterService_notFilling s)
  · exact refl s

theorem discardReports (n : Nat) (s : State) : LeavesSettings s (discardReports n s).1 := by
  unfold Machine.discardReports
  split
  · exact of_fields rfl rfl rfl rfl rfl fun _ => id
  · exact refl s

theorem acknowledgeAlarms (mask : Byte) (s : State) : LeavesSettings s (acknowledgeAlarms mask s).1 := by
  unfold Machine.acknowledgeAlarms
  split
  · exact refl s
  · exact (refl s).elsewhere

end LeavesSettings

/-! ### Requests that only read -/

theorem readValveProfile_state (profile : Nat) (s : State) : (readValveProfile profile s).1 = s := by
  unfold readValveProfile; split <;> rfl

theorem readHead_state (head : Nat) (s : State) : (readHead head s).1 = s := by unfold readHead; split <;> rfl

theorem readRecipe_state (slot : Nat) (s : State) : (readRecipe slot s).1 = s := by
  unfold readRecipe
  split
  · rfl
  · split <;> rfl

theorem readCorrections_state (slot : Nat) (s : State) : (readCorrections slot s).1 = s := by
  unfold readCorrections; split <;> rfl

theorem peekReports_state (n : Nat) (s : State) : (peekReports n s).1 = s := by unfold peekReports; split <;> rfl

/-- The requests that write the tracker or a stored setting. -/
def writesSettings : Instr → Bool
  | .setGeometry _ => true
  | .startProduction => true
  | .clearHalt => true
  | .setValveProfile _ _ => true
  | .loadRecipe _ _ => true
  | .unloadRecipe _ => true
  | .setReporting _ => true
  | _ => false

theorem answerRequest_leaves {i : Instr} (hi : writesSettings i = false) (s : State) :
    LeavesSettings s (answerRequest i s).1 := by
  cases i with
  | setHead head profile factor => exact .setHead head profile factor s
  | enableHeads mask => exact .enableHeads mask s
  | disableHeads mask =>
    dsimp only [answerRequest, disableHeads, accept]
    exact .setEnable s mask fun _ => le_max_right _ _
  | bindRecipe mask slot => exact .bindRecipe mask slot s
  | readCorrectionForEdit head slot => exact .readCorrectionForEdit head slot s
  | writeCorrection head slot value => exact .writeCorrection head slot value s
  | restoreCorrections slot values => exact .restoreCorrections slot values s
  | stop => exact .stopRequest s
  | halt _ => exact .haltAll s
  | startCleaning openTime pauseTime cycles => exact .startCleaning openTime pauseTime cycles s
  | startCalibration head target => exact .startCalibration head target s
  | enterActualVolume volume => exact .enterActualVolume volume s
  | endCalibration => exact .endCalibrationRequest s
  | discardReports n => exact .discardReports n s
  | acknowledgeAlarms mask => exact .acknowledgeAlarms mask s
  | restart => exact (LeavesSettings.refl s).elsewhere
  | readValveProfile profile => exact (readValveProfile_state profile s).symm ▸ .refl s
  | readHead head => exact (readHead_state head s).symm ▸ .refl s
  | readRecipe slot => exact (readRecipe_state slot s).symm ▸ .refl s
  | readCorrections slot => exact (readCorrections_state slot s).symm ▸ .refl s
  | peekReports n => exact (peekReports_state n s).symm ▸ .refl s
  | setGeometry | startProduction | clearHalt | setValveProfile | loadRecipe | unloadRecipe | setReporting => cases hi
  | _ => exact .refl s

/-! ### The other requests -/

theorem loadRecipe_trackerKept (slot : Nat) (r : Recipe) (s : State) : TrackerKept s (loadRecipe slot r s).1 := by
  unfold loadRecipe
  split
  · exact ⟨rfl, id⟩
  · split
    · exact ⟨rfl, id⟩
    · split
      · exact (⟨rfl, id⟩ : TrackerKept s (s.putSlot _ _)).trans (LeavesSettings.clearColumn _ _).toTrackerKept
      · exact ⟨rfl, id⟩

theorem unloadRecipe_trackerKept (slot : Nat) (s : State) : TrackerKept s (unloadRecipe slot s).1 := by
  unfold unloadRecipe
  split
  · exact ⟨rfl, id⟩
  · split
    · exact ⟨rfl, id⟩
    · exact (⟨rfl, id⟩ : TrackerKept s (s.putSlot _ _)).trans (LeavesSettings.clearColumn _ _).toTrackerKept

theorem setReporting_trackerKept (n : Nat) (s : State) : TrackerKept s (setReporting n s).1 := by
  unfold setReporting; split <;> exact ⟨rfl, id⟩

theorem setValveProfile_trackerKept (profile : Nat) (f : ProfileFields) (s : State) :
    TrackerKept s (setValveProfile profile f s).1 := by
  unfold setValveProfile
  split
  · split
    · exact ⟨by simp [accept], fun h => by simpa [accept, State.fillingMode] using h⟩
    · exact ⟨rfl, id⟩
  · exact ⟨rfl, id⟩

theorem setGeometry_settingsKept (g : Geometry) (s : State) : SettingsKept s (setGeometry g s).1 := by
  unfold setGeometry
  split
  · split <;> exact ⟨rfl, rfl, fun _ => rfl, fun _ => id⟩
  · exact ⟨rfl, rfl, fun _ => rfl, fun _ => id⟩

theorem startProduction_settingsKept (s : State) : SettingsKept s (startProduction s).1 := by
  unfold startProduction
  split
  · split <;> exact ⟨rfl, rfl, fun _ => rfl, fun _ => id⟩
  · exact ⟨rfl, rfl, fun _ => rfl, fun _ => id⟩

theorem clearHalt_settingsKept (s : State) : SettingsKept s (clearHalt s).1 := by
  unfold clearHalt
  split
  · split <;> exact ⟨rfl, rfl, fun _ => rfl, fun _ => id⟩
  · exact ⟨rfl, rfl, fun _ => rfl, fun _ => id⟩

/-! ### The encoder events -/

/-- A forward step (R6): the counts move, and what a crossing does leaves tracker and settings. -/
theorem State.stepForward_leaves (s : State) :
    LeavesSettings
      { s with tracker := { s.tracker with
          count := (s.tracker.count + 1) % s.tracker.geometry.cpr, lead := s.tracker.lead - 1 } } s.stepForward := by
  unfold State.stepForward
  dsimp only
  split
  · exact .refl _
  · next hl =>
    have hz : s.tracker.lead - 1 = s.tracker.lead := by omega
    rw [hz]
    split
    · exact .cross _ _
    · exact .refl _

/-- The tracker's fault (R14, R143): FAULTED with its counts, out of PRODUCTION and DRAINING, the settings kept. -/
theorem State.faultTracker_leaves (s : State) :
    s.faultTracker.tracker = { s.tracker with status := .faulted } ∧ s.faultTracker.fillingMode = false ∧
      SettingsKept s s.faultTracker := by
  unfold State.faultTracker
  dsimp only
  generalize ht : State.raise { s with tracker := { s.tracker with status := .faulted } } .encoderFault = t
  have htr : t.tracker = { s.tracker with status := .faulted } := by rw [← ht]; rfl
  have hk : SettingsKept s t := by rw [← ht]; exact ⟨rfl, rfl, fun _ => rfl, fun _ => id⟩
  have halted : ∀ u : State, LeavesSettings t u → (u.setMode .halted).tracker = { s.tracker with status := .faulted } ∧
      (u.setMode .halted).fillingMode = false ∧ SettingsKept s (u.setMode .halted) := fun u hu =>
    ⟨hu.tracker.trans htr, rfl, (hk.trans hu.toSettingsKept).trans (.before (.refl _))⟩
  have produced := halted _ (.haltHeads t)
  generalize t.haltHeads = v at produced ⊢
  split
  · exact halted t (.refl t)
  · exact produced
  · exact produced
  all_goals next hm => exact ⟨htr, by simp [State.fillingMode, hm], hk⟩

theorem State.checkIndex_settingsKept (s : State) : SettingsKept s s.checkIndex := by
  unfold State.checkIndex
  dsimp only
  split
  · exact ⟨rfl, rfl, fun _ => rfl, fun _ => id⟩
  · split
    · exact (State.faultTracker_leaves _).2.2.before
    · exact ⟨rfl, rfl, fun _ => rfl, fun _ => id⟩

theorem State.stepForward_settingsKept (s : State) : SettingsKept s s.stepForward :=
  s.stepForward_leaves.toSettingsKept.before

theorem State.stepBackward_settingsKept (s : State) : SettingsKept s s.stepBackward := by
  unfold State.stepBackward
  dsimp only
  split
  · exact (State.faultTracker_leaves _).2.2.before
  · exact ⟨rfl, rfl, fun _ => rfl, fun _ => id⟩

/-- A forward step with the index mark, in UNREFERENCED or REFERENCED (R10 to R12). -/
def State.markIndex (s : State) : State :=
  if s.tracker.status = .unreferenced then
    { s.stepForward with tracker := ⟨s.stepForward.tracker.geometry, 0, 0, 0, .referenced⟩ }
  else s.stepForward.checkIndex

theorem execIndexMarkStep_eq (s : State) : execIndexMarkStep s =
    .next (event (fun t => if t.tracker.status = .faulted then t else t.markIndex) s) := by
  unfold execIndexMarkStep State.markIndex
  congr 2
  funext t
  cases h : t.tracker.status <;> simp

/-! ### Any law through exec -/

/-- A law survives every command if it survives what leaves tracker and settings, the seven requests that write them,
the encoder events and the resets. -/
theorem exec_keeps {P : State → Prop} (hleave : ∀ {s t}, LeavesSettings s t → P s → P t)
    (hwrite : ∀ {i} s, writesSettings i = true → P s → P (answerRequest i s).1)
    (hforward : ∀ s, s.tracker.status ≠ .faulted → P s → P s.stepForward)
    (hbackward : ∀ s, s.tracker.status ≠ .faulted → P s → P s.stepBackward)
    (hindex : ∀ s, s.tracker.status ≠ .faulted → P s → P s.markIndex)
    (hfault : ∀ s, s.tracker.status ≠ .faulted → P s → P s.faultTracker)
    (hpower : ∀ pins (s : State), P (s.powerOnWith pins)) (hrestart : ∀ s, P s → P s.restart)
    {c : Instr} {s t : State} (hs : P s) (he : exec c s = .next t) : P t := by
  have leave : ∀ {u v : State}, LeavesSettings u v → P u → P v := hleave
  have answer : ∀ (i : Instr) (u : State), P u → P (answerRequest i u).1 := by
    intro i u hu
    cases hi : writesSettings i with
    | true => exact hwrite u hi hu
    | false => exact leave (answerRequest_leaves hi u) hu
  have link : ∀ (u : State) (l : Link), P u → P { u with link := l } := fun u l => leave (LeavesSettings.refl u).elsewhere
  have moved : ∀ {f : State → State}, (∀ u, u.tracker.status ≠ .faulted → P u → P (f u)) →
      P (event (fun u => if u.tracker.status = .faulted then u else f u) s) := by
    intro f hf
    refine event_cases _ hs ?_
    split
    · exact hs
    · next h => exact hf s h hs
  have expired : ∀ {cycle kind h act}, (∀ u, LeavesSettings u (act u)) → P (onExpiry cycle kind h act s) := by
    intro cycle kind h act ha
    refine event_cases _ hs ?_
    split
    · exact leave (ha s) hs
    · exact hs
  by_cases hr : isRequest c = true
  · obtain ⟨code, e⟩ := exec_of_isRequest hr s
    rw [e] at he; injection he with he; subst he
    exact transact_cases code _ hs (answer c s hs) link
  · cases c with
    | halt broadcast =>
      cases broadcast with
      | false => exact absurd rfl hr
      | true =>
        injection he with he; subst he
        rw [if_pos rfl]
        refine event_cases _ hs ?_
        split
        · exact hs
        · exact leave ((LeavesSettings.haltAll s).trans (.toHunt _)) hs
    | byteArrival b =>
      injection he with he; subst he
      refine event_cases _ hs ?_
      unfold receiveByte
      split
      · split
        · exact link _ _ hs
        · exact hs
      · dsimp only
        split
        · exact link _ _ hs
        · exact link _ _ hs
        · have hunted : P s.toHunt := leave (.toHunt s) hs
          unfold takeFrame
          dsimp only
          split
          · exact hunted
          · split
            · split
              · exact leave (.haltAll _) hunted
              · exact hunted
            · split
              · refine link _ _ ?_
                unfold serveRequest
                split
                · exact answer _ _ hunted
                · exact hunted
                · exact hunted
              · exact hunted
      · exact hs
    | gapTimerExpiry =>
      injection he with he; subst he
      refine event_cases _ hs ?_
      split
      · exact link _ _ hs
      · exact hs
    | replySent =>
      injection he with he; subst he
      refine event_cases _ hs ?_
      split
      · split
        · exact hrestart s hs
        · exact leave (LeavesSettings.refl s).elsewhere hs
      · exact hs
    | encoderForwardStep => injection he with he; subst he; exact moved hforward
    | encoderBackwardStep => injection he with he; subst he; exact moved hbackward
    | indexMarkStep =>
      replace he := (execIndexMarkStep_eq s).symm.trans he
      injection he with he; subst he; exact moved hindex
    | quadratureError => injection he with he; subst he; exact moved hfault
    | contactArrival h =>
      injection he with he; subst he
      split
      · exact hs
      · have came : P (s.putContact h true) := leave (LeavesSettings.refl s).elsewhere hs
        exact event_cases _ came (leave (.contactCame _ h) came)
    | contactLoss h =>
      injection he with he; subst he
      split
      · have went : P (s.putContact h false) := leave (LeavesSettings.refl s).elsewhere hs
        exact event_cases _ went (leave (.contactWent _ h) went)
      · exact hs
    | contactWindowExpiry h => injection he with he; subst he; exact expired fun u => .leaveToIdle u h
    | pressurizeDwellExpiry h => injection he with he; subst he; exact expired fun u => .enter u h _ _
    | settleExpiry h => injection he with he; subst he; exact expired fun u => .finishSettle u h
    | sniftDwellExpiry h => injection he with he; subst he; exact expired fun u => .finishSnift u h
    | ventDwellExpiry h =>
      injection he with he; subst he
      exact expired fun u => (LeavesSettings.updHead u h (f := fun x => { x with timer := none }) (le_max_right _ _)).elsewhere
    | millisecondTick =>
      injection he with he; subst he
      exact event_cases _ hs (leave (LeavesSettings.refl s).elsewhere hs)
    | flowmeterPulse h =>
      injection he with he; subst he
      exact event_cases _ hs (leave (LeavesSettings.refl s).elsewhere hs)
    | bankScan b => injection he with he; subst he; exact event_cases _ hs (leave (.scanBank s b) hs)
    | openPhaseExpiry =>
      injection he with he; subst he
      refine event_cases _ hs ?_
      split
      · split
        · exact leave (.endOpenPhase s _) hs
        · exact hs
      · exact hs
    | pausePhaseExpiry =>
      injection he with he; subst he
      refine event_cases _ hs ?_
      split
      · split
        · exact leave (.endCycle s _) hs
        · exact hs
      · exact hs
    | valvePowerLoss =>
      injection he with he; subst he
      split
      · have lost : P (s.putSense false) := leave (LeavesSettings.refl s).elsewhere hs
        exact event_cases _ lost (leave (.losePower _) lost)
      · exact hs
    | valvePowerReturn =>
      injection he with he; subst he
      split
      · exact hs
      · have back : P (s.putSense true) := leave (LeavesSettings.refl s).elsewhere hs
        exact event_cases _ back (leave (.regainPower _) back)
    | productReadyChange high =>
      injection he with he; subst he
      have levelled : P { s with pins := { s.pins with productReady := high } } := leave (LeavesSettings.refl s).elsewhere hs
      exact event_cases _ levelled (leave (LeavesSettings.refl _).elsewhere levelled)
    | powerOn pins => injection he with he; subst he; exact hpower _ s
    | resetLineAssert => injection he with he; subst he; exact leave (.holdLine s) hs
    | resetLineRelease switches =>
      injection he with he; subst he
      split
      · exact hpower _ s
      · exact hs
    | _ => exact absurd rfl hr

end Sys2Proof.Machine
end

section
/-! SUPPORT. The law of the tracker and the law of the stored settings through every step. -/

namespace Sys2Proof.Machine

/-! ### The tracker -/

theorem TrackerLaw.of_kept {s t : State} (hk : TrackerKept s t) (hs : TrackerLaw s) : TrackerLaw t := by
  obtain ⟨hcount, hlead, hslips, hfilling, hgeometry⟩ := hs
  unfold TrackerLaw
  rw [hk.tracker]
  exact ⟨hcount, hlead, hslips, fun h => hfilling (hk.filling h), hgeometry⟩

/-- A geometry record the tracker may hold has encoder counts (R1, R16). -/
theorem cpr_pos {g : Geometry} (hg : g = Geometry.powerOn ∨ geometryAcceptable g = true) : 0 < g.cpr := by
  rcases hg with rfl | hg
  · decide
  · simp only [geometryAcceptable, Bool.and_eq_true, decide_eq_true_eq] at hg
    omega

theorem geometryInRange_eq (g : Geometry) : geometryInRange g = geometryAcceptable g := by
  simp [geometryInRange, geometryAcceptable, between, Bool.and_assoc]

/-- Outside PRODUCTION and DRAINING a tracker with all counts 0 is within the law. -/
theorem TrackerLaw.zeroed {s : State} (hf : s.fillingMode = false) {g : Geometry} {st : TrackerStatus}
    (hg : g = Geometry.powerOn ∨ geometryAcceptable g = true) (ht : s.tracker = ⟨g, 0, 0, 0, st⟩) : TrackerLaw s := by
  unfold TrackerLaw
  rw [ht]
  exact ⟨cpr_pos hg, Nat.zero_le _, .inl (Nat.zero_le _), fun h => absurd h (by simp [hf]), hg⟩

theorem fillingMode_of_configurable {s : State} (h : s.mode.configurable = true) : s.fillingMode = false := by
  unfold State.fillingMode
  cases hm : s.mode <;> simp [hm, Mode.configurable] at h ⊢

theorem setGeometry_trackerLaw (g : Geometry) {s : State} (hs : TrackerLaw s) : TrackerLaw (setGeometry g s).1 := by
  unfold setGeometry
  split
  · next hm =>
    split
    · next hg =>
      rw [Bool.and_eq_true, geometryInRange_eq] at hg
      exact .zeroed (fillingMode_of_configurable hm) (.inr hg.1) rfl
    · exact hs
  · exact hs

theorem startRefusal_none {s : State} (h : startRefusal s = none) : s.tracker.status = .referenced := by
  unfold startRefusal at h
  by_contra hr
  rw [if_pos hr] at h
  split at h <;> cases h

theorem startProduction_trackerLaw {s : State} (hs : TrackerLaw s) : TrackerLaw (startProduction s).1 := by
  unfold startProduction
  split
  · split
    · exact hs
    · next hr =>
      obtain ⟨hcount, -, hslips, -, hgeometry⟩ := hs
      exact ⟨hcount, Nat.zero_le _, hslips, fun _ => startRefusal_none hr, hgeometry⟩
  · exact hs

theorem clearHalt_trackerLaw {s : State} (hs : TrackerLaw s) : TrackerLaw (clearHalt s).1 := by
  unfold clearHalt
  split
  · split
    · by_cases hf : s.tracker.status = .faulted
      · simp only [hf, if_true]
        exact .zeroed rfl hs.2.2.2.2 rfl
      · simp only [hf, if_false, accept]
        refine .of_kept (s := s) ⟨rfl, fun h => ?_⟩ hs
        simp [State.fillingMode] at h
    · exact hs
  · exact hs

theorem stepForward_trackerLaw {s : State} (hs : TrackerLaw s) : TrackerLaw s.stepForward := by
  obtain ⟨-, hlead, hslips, hfilling, hgeometry⟩ := hs
  refine .of_kept s.stepForward_leaves.toTrackerKept ⟨?_, ?_, hslips, hfilling, hgeometry⟩
  · exact Nat.mod_lt _ (cpr_pos hgeometry)
  · exact (Nat.sub_le _ _).trans hlead

/-- A FAULTED tracker is within the law with its counts in range, for the modes it leaves (R14, R143). -/
theorem faultTracker_trackerLaw {s : State} (hcount : s.tracker.count < s.tracker.geometry.cpr)
    (hlead : s.tracker.lead ≤ 65535) (hslips : s.tracker.slips ≤ 2)
    (hgeometry : s.tracker.geometry = Geometry.powerOn ∨ geometryAcceptable s.tracker.geometry = true) :
    TrackerLaw s.faultTracker := by
  obtain ⟨ht, hf, -⟩ := s.faultTracker_leaves
  unfold TrackerLaw
  rw [ht, hf]
  refine ⟨hcount, hlead, ?_, fun h => absurd h Bool.false_ne_true, hgeometry⟩
  show s.tracker.slips ≤ 1 ∨ (s.tracker.slips = 2 ∧ _)
  exact (Nat.lt_or_eq_of_le hslips).imp Nat.le_of_lt_succ fun h => ⟨h, rfl⟩

theorem slips_le_two {s : State} (hs : TrackerLaw s) : s.tracker.slips ≤ 2 := by
  obtain ⟨-, -, hslips, -⟩ := hs; omega

theorem stepBackward_trackerLaw {s : State} (hs : TrackerLaw s) : TrackerLaw s.stepBackward := by
  have htwo := slips_le_two hs
  obtain ⟨-, -, hslips, hfilling, hgeometry⟩ := hs
  have hcount := Nat.mod_lt (s.tracker.count + s.tracker.geometry.cpr - 1) (cpr_pos hgeometry)
  have hlead : sat16 (s.tracker.lead + 1) ≤ 65535 := min_le_right _ _
  unfold State.stepBackward
  dsimp only
  split
  · exact faultTracker_trackerLaw hcount hlead htwo hgeometry
  · exact ⟨hcount, hlead, hslips, hfilling, hgeometry⟩

theorem checkIndex_trackerLaw {s : State} (hstatus : s.tracker.status ≠ .faulted) (hs : TrackerLaw s) :
    TrackerLaw s.checkIndex := by
  obtain ⟨-, hlead, hslips, hfilling, hgeometry⟩ := hs
  have hone : s.tracker.slips ≤ 1 := hslips.resolve_right fun h => hstatus h.2
  unfold State.checkIndex
  dsimp only
  split
  · exact ⟨cpr_pos hgeometry, hlead, .inl (Nat.zero_le _), hfilling, hgeometry⟩
  · split
    · exact faultTracker_trackerLaw (cpr_pos hgeometry) hlead (Nat.succ_le_succ hone) hgeometry
    · exact ⟨cpr_pos hgeometry, hlead, .inl (by show s.tracker.slips + 1 ≤ 1; omega), hfilling, hgeometry⟩

theorem markIndex_trackerLaw {s : State} (hstatus : s.tracker.status ≠ .faulted) (hs : TrackerLaw s) :
    TrackerLaw s.markIndex := by
  have hu := stepForward_trackerLaw hs
  have ht : s.stepForward.tracker.status = s.tracker.status := by rw [s.stepForward_leaves.tracker]
  unfold State.markIndex
  generalize s.stepForward = u at hu ht ⊢
  split
  · obtain ⟨-, -, -, -, hgeometry⟩ := hu
    exact ⟨cpr_pos hgeometry, Nat.zero_le _, .inl (Nat.zero_le _), fun _ => rfl, hgeometry⟩
  · exact checkIndex_trackerLaw (ht ▸ hstatus) hu

theorem powerOnWith_trackerLaw (pins : Pins) (s : State) : TrackerLaw (s.powerOnWith pins) := by
  refine .zeroed ?_ (.inl rfl) rfl
  show State.fillingMode { s with mode := Mode.afterReset pins.valvePower } = false
  unfold Mode.afterReset; split <;> rfl

theorem restart_trackerLaw {s : State} (hs : TrackerLaw s) : TrackerLaw s.restart := by
  refine .zeroed ?_ hs.2.2.2.2 rfl
  show State.fillingMode { s with mode := Mode.afterReset s.pins.valvePower } = false
  unfold Mode.afterReset; split <;> rfl

theorem exec_keeps_trackerLaw {c : Instr} {s t : State} (hs : TrackerLaw s) (he : exec c s = .next t) : TrackerLaw t := by
  refine exec_keeps (P := TrackerLaw) (fun hl => .of_kept hl.toTrackerKept) (fun {i} u hi hu => ?_) (fun u _ => stepForward_trackerLaw)
    (fun u _ => stepBackward_trackerLaw) (fun u => markIndex_trackerLaw)
    (fun u _ hu => faultTracker_trackerLaw hu.1 hu.2.1 (slips_le_two hu) hu.2.2.2.2)
    powerOnWith_trackerLaw (fun u => restart_trackerLaw) hs he
  cases i with
  | setGeometry g => exact setGeometry_trackerLaw g hu
  | startProduction => exact startProduction_trackerLaw hu
  | clearHalt => exact clearHalt_trackerLaw hu
  | setValveProfile profile f => exact .of_kept (setValveProfile_trackerKept profile f u) hu
  | loadRecipe slot r => exact .of_kept (loadRecipe_trackerKept slot r u) hu
  | unloadRecipe slot => exact .of_kept (unloadRecipe_trackerKept slot u) hu
  | setReporting n => exact .of_kept (setReporting_trackerKept n u) hu
  | _ => cases hi

/-! ### The stored settings -/

theorem StoredSettingsLaw.of_kept {s t : State} (hk : SettingsKept s t) (hs : StoredSettingsLaw s) :
    StoredSettingsLaw t := by
  obtain ⟨hrecipes, hthreshold, hprofiles, hfaults⟩ := hs
  refine ⟨fun k r h => hrecipes k r (hk.recipes k ▸ h), hk.threshold ▸ hthreshold, fun p => ?_,
    fun h => hk.faults h (hfaults h)⟩
  rw [hk.profiles]; exact hprofiles p

/-- A recipe in range is stored within its ranges (R85, R86, R88). -/
theorem recipeStored_clampRecipe {r : Recipe} (hr : recipeInRange r = true) : recipeStored (clampRecipe r) := by
  simp only [recipeInRange, between, Bool.and_eq_true, decide_eq_true_eq] at hr
  unfold recipeStored clampRecipe
  dsimp only
  omega

theorem putSlot_storedSettingsLaw {s : State} (k : SlotId) {x : Slot} (hx : ∀ r, x.recipe = some r → recipeStored r)
    (hs : StoredSettingsLaw s) : StoredSettingsLaw ((s.putSlot k x).clearColumn k) := by
  refine .of_kept (LeavesSettings.clearColumn k _).toSettingsKept ⟨fun j r h => ?_, hs.2⟩
  rw [State.slot_putSlot] at h
  split at h
  · exact hx r h
  · exact hs.1 j r h

theorem loadRecipe_storedSettingsLaw (slot : Nat) (r : Recipe) {s : State} (hs : StoredSettingsLaw s) :
    StoredSettingsLaw (loadRecipe slot r s).1 := by
  unfold loadRecipe
  split
  · exact hs
  · split
    · exact hs
    · split
      · next hr =>
        refine putSlot_storedSettingsLaw _ (fun q hq => ?_) hs
        injection hq with hq; subst hq
        exact recipeStored_clampRecipe hr
      · exact hs

theorem unloadRecipe_storedSettingsLaw (slot : Nat) {s : State} (hs : StoredSettingsLaw s) :
    StoredSettingsLaw (unloadRecipe slot s).1 := by
  unfold unloadRecipe
  split
  · exact hs
  · split
    · exact hs
    · exact putSlot_storedSettingsLaw _ (fun _ hq => by cases hq) hs

theorem setReporting_storedSettingsLaw (n : Nat) {s : State} (hs : StoredSettingsLaw s) :
    StoredSettingsLaw (setReporting n s).1 := by
  unfold setReporting
  split
  · next hn =>
    obtain ⟨hrecipes, -, hprofiles, hfaults⟩ := hs
    refine ⟨hrecipes, ?_, hprofiles, hfaults⟩
    simpa [accept, thresholdAllowed, or_assoc] using hn
  · exact hs

theorem profileOfFields_lags {f : ProfileFields} {p : ValveProfile} (h : profileOfFields f = some p) :
    p.openLag ≤ 32767 ∧ p.closingLag ≤ 32767 := by
  unfold profileOfFields at h
  split at h
  · split at h
    · next hl => injection h with h; subst h; exact hl
    · cases h
  · cases h

theorem setValveProfile_storedSettingsLaw (profile : Nat) (f : ProfileFields) {s : State} (hs : StoredSettingsLaw s) :
    StoredSettingsLaw (setValveProfile profile f s).1 := by
  unfold setValveProfile
  split
  · split
    · next k p _ hp =>
      have hput : StoredSettingsLaw { s with profiles := s.profiles.set k p } := by
        obtain ⟨hrecipes, hthreshold, hprofiles, hfaults⟩ := hs
        refine ⟨hrecipes, hthreshold, fun j => ?_, hfaults⟩
        show ((s.profiles.set k p)[j]).openLag ≤ 32767 ∧ ((s.profiles.set k p)[j]).closingLag ≤ 32767
        rw [vector_set_get]
        split
        · exact profileOfFields_lags hp
        · exact hprofiles j
      dsimp only [accept]
      exact .of_kept (LeavesSettings.deriveTerminalsWhere _ _).toSettingsKept hput
    · exact hs
  · exact hs

theorem markIndex_settingsKept (s : State) : SettingsKept s s.markIndex := by
  have hu := s.stepForward_settingsKept
  unfold State.markIndex
  generalize s.stepForward = u at hu ⊢
  split
  · exact hu.trans ⟨rfl, rfl, fun _ => rfl, fun _ => id⟩
  · exact hu.trans u.checkIndex_settingsKept

theorem powerOnWith_storedSettingsLaw (pins : Pins) (s : State) : StoredSettingsLaw (s.powerOnWith pins) := by
  refine ⟨fun k r h => ?_, ?_, fun p => ?_, fun h => ?_⟩
  · have : ((s.powerOnWith pins).slot k).recipe = none := by
      show ((Vector.replicate 8 (⟨none, 0⟩ : Slot))[k]).recipe = none
      simp
    rw [this] at h; cases h
  · show 224 ∈ [192, 208, 224, 240]
    decide
  · show ((Vector.replicate 8 ValveProfile.powerOn)[p]).openLag ≤ 32767 ∧
      ((Vector.replicate 8 ValveProfile.powerOn)[p]).closingLag ≤ 32767
    simp [ValveProfile.powerOn]
  · show ((Vector.replicate 64 Head.powerOn)[h]).faults ≤ 15
    simp [Head.powerOn]

theorem restart_settingsKept (s : State) : SettingsKept s s.restart := by
  refine ⟨rfl, rfl, fun k => ?_, fun h hf => ?_⟩
  · unfold State.slot State.restart
    rw [vector_ofFn_get]
    rfl
  · show ((Vector.ofFn fun g : HeadId => (s.head g).restarted)[h]).faults ≤ 15
    rw [vector_ofFn_get]; exact hf

theorem exec_keeps_storedSettingsLaw {c : Instr} {s t : State} (hs : StoredSettingsLaw s) (he : exec c s = .next t) :
    StoredSettingsLaw t := by
  refine exec_keeps (P := StoredSettingsLaw) (fun hl => .of_kept hl.toSettingsKept) (fun {i} u hi hu => ?_)
    (fun u _ => .of_kept u.stepForward_settingsKept) (fun u _ => .of_kept u.stepBackward_settingsKept)
    (fun u _ => .of_kept (markIndex_settingsKept u)) (fun u _ => .of_kept u.faultTracker_leaves.2.2)
    powerOnWith_storedSettingsLaw (fun u => .of_kept (restart_settingsKept u)) hs he
  cases i with
  | setGeometry g => exact .of_kept (setGeometry_settingsKept g u) hu
  | startProduction => exact .of_kept (startProduction_settingsKept u) hu
  | clearHalt => exact .of_kept (clearHalt_settingsKept u) hu
  | setValveProfile profile f => exact setValveProfile_storedSettingsLaw profile f hu
  | loadRecipe slot r => exact loadRecipe_storedSettingsLaw slot r hu
  | unloadRecipe slot => exact unloadRecipe_storedSettingsLaw slot hu
  | setReporting n => exact setReporting_storedSettingsLaw n hu
  | _ => cases hi

/-- A law that the waiting commands do not enter into survives a step if it survives every command. -/
theorem step_keeps {P : State → Prop} (hpending : ∀ (s : State) (q : List Instr), P s → P { s with pending := q })
    (hexec : ∀ {c s t}, P s → exec c s = .next t → P t) {s t : State} (hs : P s) (he : step s = .next t) : P t := by
  unfold step at he
  split at he
  · injection he with he; subst he; exact hs
  · exact hexec (hpending s _ hs) he

/-- Settles O55: each law through exec, command by command. -/
theorem stepKeepsTrackerAndSettingsLaws : Obligations.StepKeepsTrackerAndSettingsLaws :=
  ⟨fun _ _ => step_keeps (fun _ _ => id) exec_keeps_trackerLaw,
    fun _ _ => step_keeps (fun _ _ => id) exec_keeps_storedSettingsLaw⟩

end Sys2Proof.Machine
end

section
/-! SUPPORT. The geometry request and the tracker's fault: what each leaves, by the tracker state and the mode. -/

namespace Sys2Proof.Machine

theorem idleMode_eq_configurable (s : State) : s.idleMode = s.mode.configurable := by
  unfold State.idleMode
  cases s.mode <;> rfl

/-- Settles O12: the refusals in their order, then the accepted record. -/
theorem setGeometryReplacesTheRecord : Obligations.SetGeometryReplacesTheRecord := by
  intro g s hs fits
  have arm : exec (.setGeometry g) s = .next (transact 0x02 (setGeometry g) s) := rfl
  have fits_iff : (geometryInRange g &&
      !allHeads.any fun h => decide ((s.head h).enable ≠ .disabled) && decide (g.headCount ≤ h.val)) = true ↔ fits := by
    simp [fits, geometryInRange_eq]
  rw [arm, transact_of_listening hs, idleMode_eq_configurable]
  unfold setGeometry
  refine ⟨fun hm => ?_, fun hm hf => ?_, fun hm hf => ?_⟩
  · rw [if_neg (by simp [hm])]; rfl
  · rw [if_pos hm, if_neg (fits_iff.not.mpr hf)]; rfl
  · rw [if_pos hm, if_pos (fits_iff.mpr hf)]; rfl

/-! ### The fault of the tracker by mode (R14, R143) -/

theorem State.faultTracker_standby {s : State} (hm : s.mode = .standby) :
    s.faultTracker = { s with
      tracker := { s.tracker with status := .faulted }
      alarms := { s.alarms with encoderFault := true }
      mode := .halted } := by
  have hm' : (State.raise { s with tracker := { s.tracker with status := .faulted } } .encoderFault).mode = .standby := hm
  unfold State.faultTracker
  dsimp only
  rw [hm']; rfl

theorem State.faultTracker_held {s : State} (hm : s.mode = .halted ∨ s.mode = .cleaning ∨ s.mode = .calibration) :
    s.faultTracker = { s with
      tracker := { s.tracker with status := .faulted }
      alarms := { s.alarms with encoderFault := true } } := by
  have hm' : (State.raise { s with tracker := { s.tracker with status := .faulted } } .encoderFault).mode = s.mode := rfl
  unfold State.faultTracker
  dsimp only
  rw [hm']
  rcases hm with hm | hm | hm <;> rw [hm] <;> rfl

theorem State.fillingMode_iff (s : State) : s.fillingMode = true ↔ s.mode = .production ∨ s.mode = .draining := by
  unfold State.fillingMode; simp

theorem State.producing_eq_fillingMode (s : State) : s.mode.producing = s.fillingMode := by
  unfold State.fillingMode
  cases s.mode <;> rfl

/-- In PRODUCTION and DRAINING the heads are halted with their reports (R44, R124, R143). -/
theorem State.faultTracker_filling {s : State} (hm : s.fillingMode = true) :
    let filed := allHeads.filterMap (haltContent s)
    HeadsAtRest s s.faultTracker ∧ s.faultTracker = { s with
      tracker := { s.tracker with status := .faulted }
      heads := s.faultTracker.heads
      outputs := s.faultTracker.outputs
      inFlight := 0
      reports := s.reports.filedAll filed
      alarms := { s.alarmsFiled filed.length with encoderFault := true }
      mode := .halted } := by
  intro filed
  generalize ht : State.raise { s with tracker := { s.tracker with status := .faulted } } .encoderFault = t
  have hmode : t.mode = s.mode := by rw [← ht]; rfl
  have hmt : t.mode = .production ∨ t.mode = .draining := by rw [hmode]; exact s.fillingMode_iff.mp hm
  have e : s.faultTracker = t.haltHeads.setMode .halted := by
    unfold State.faultTracker
    dsimp only
    rw [ht]
    rcases hmt with h | h <;> rw [h]
  obtain ⟨hrest, heq⟩ := State.haltHeads_spec (s := t) (by rcases hmt with h | h <;> rw [h] <;> decide)
  have hfiled : allHeads.filterMap (haltContent t) = filed := by
    have : haltContent t = haltContent s := funext fun g => haltContent_congr s t g (by rw [← ht]; rfl)
    rw [this]
  rw [hfiled] at heq
  rw [e]
  generalize t.haltHeads = u at hrest heq ⊢
  subst ht
  exact ⟨hrest, by rw [heq]; rfl⟩

/-- Settles O16: the fault of the tracker in each mode. -/
theorem quadratureErrorFaultsByMode : Obligations.QuadratureErrorFaultsByMode := by
  intro s hs tracker alarms
  have arm : exec .quadratureError s = .next (if s.tracker.status = .faulted then s else s.faultTracker) := by
    show execQuadratureError s = _
    unfold execQuadratureError
    rw [event_of_running hs]
  rw [arm]
  refine ⟨fun hf => by rw [if_pos hf], fun hf hm => ?_, fun hf hm => ?_, fun hf hm => ?_⟩
  · rw [if_neg hf, State.faultTracker_standby hm]
  · rw [if_neg hf, State.faultTracker_held hm]
  · exact ⟨_, by rw [if_neg hf], State.faultTracker_filling hm⟩

/-! ### The encoder steps (R6, R7) -/

theorem exec_encoderForwardStep {s : State} (hs : s.running = true) :
    exec .encoderForwardStep s = .next (if s.tracker.status = .faulted then s else s.stepForward) := by
  show execEncoderForwardStep s = _
  unfold execEncoderForwardStep
  rw [event_of_running hs]

theorem exec_encoderBackwardStep {s : State} (hs : s.running = true) :
    exec .encoderBackwardStep s = .next (if s.tracker.status = .faulted then s else s.stepBackward) := by
  show execEncoderBackwardStep s = _
  unfold execEncoderBackwardStep
  rw [event_of_running hs]

/-- A forward step that raises no arrivals: it works off the lead, or the production cycle does not run (R6, R9). -/
theorem State.stepForward_quiet {s : State} (h : 0 < s.tracker.lead ∨ s.fillingMode = false) :
    s.stepForward = { s with
      tracker := { s.tracker with
        count := (s.tracker.count + 1) % s.tracker.geometry.cpr, lead := s.tracker.lead - 1 } } := by
  unfold State.stepForward
  dsimp only
  split
  · rfl
  · next hl =>
    rw [State.producing_eq_fillingMode, if_neg (by simp [h.resolve_left hl])]
    have hz : s.tracker.lead - 1 = s.tracker.lead := by omega
    rw [hz]

/-- A forward step that brings a crossing (R6, R8). -/
theorem State.stepForward_crossing {s : State} (hl : s.tracker.lead = 0) (hm : s.fillingMode = true) :
    s.stepForward =
      State.cross s.tracker.count
        { s with tracker := { s.tracker with count := (s.tracker.count + 1) % s.tracker.geometry.cpr } } := by
  unfold State.stepForward
  dsimp only
  rw [if_neg (by omega), State.producing_eq_fillingMode, if_pos hm]

theorem State.stepForward_tracker (s : State) : s.stepForward.tracker = { s.tracker with
    count := (s.tracker.count + 1) % s.tracker.geometry.cpr, lead := s.tracker.lead - 1 } :=
  s.stepForward_leaves.tracker

theorem count_back {c n : Nat} (h : c < n) : (c + n - 1) % n = if c = 0 then n - 1 else c - 1 := by
  split
  · next hc => subst hc; rw [Nat.zero_add]; exact Nat.mod_eq_of_lt (by omega)
  · next hc =>
    have : c + n - 1 = c - 1 + n := by omega
    rw [this, Nat.add_mod_right]
    exact Nat.mod_eq_of_lt (by omega)

/-- A backward step: the counts move, and beyond the reverse tolerance in PRODUCTION and DRAINING the tracker faults
(R7). -/
theorem State.stepBackward_eq {s : State} (hc : s.tracker.count < s.tracker.geometry.cpr) :
    let lead := if s.tracker.lead < 65535 then s.tracker.lead + 1 else 65535
    let moved := { s with
      tracker := { s.tracker with
        count := if s.tracker.count = 0 then s.tracker.geometry.cpr - 1 else s.tracker.count - 1, lead := lead } }
    s.stepBackward =
      if s.fillingMode = true ∧ s.tracker.geometry.reverseTolerance < lead then moved.faultTracker else moved := by
  intro lead moved
  have hlead : sat16 (s.tracker.lead + 1) = lead := by unfold sat16; simp only [lead]; split <;> omega
  unfold State.stepBackward
  dsimp only
  rw [count_back hc, hlead, State.producing_eq_fillingMode]

/-- Settles O13: the forward step by lead and mode, the backward step by the reverse tolerance. -/
theorem encoderStepsMoveTheCounts : Obligations.EncoderStepsMoveTheCounts := by
  constructor
  · intro s hs
    rw [exec_encoderForwardStep hs]
    refine ⟨fun hf => by rw [if_pos hf], fun hf hq => ?_, fun hf hl _ => ⟨_, by rw [if_neg hf], ?_⟩⟩
    · rw [if_neg hf, State.stepForward_quiet hq]
    · have hz : s.tracker.lead - 1 = s.tracker.lead := by omega
      rw [State.stepForward_tracker, hz]
  · intro s hs count lead
    rw [exec_encoderBackwardStep hs]
    refine ⟨fun hf => by rw [if_pos hf], fun hf hc => ?_⟩
    rw [if_neg hf, State.stepBackward_eq hc]
    refine ⟨fun hq => ?_, fun hm hr => ⟨_, by rw [if_pos ⟨hm, hr⟩], ?_⟩⟩
    · rw [if_neg]
      rintro ⟨hm, hr⟩
      rcases hq with hq | hq
      · simp [hm] at hq
      · exact absurd hr (not_lt.mpr hq)
    · exact State.faultTracker_filling (s := { s with tracker := { s.tracker with count := count, lead := lead } }) hm

end Sys2Proof.Machine
end

section
/-! SUPPORT. One arrival at one head: what it leaves of the rest of the state, and the head's record and outputs after
it, the end of DRAINING set aside. -/

namespace Sys2Proof.Machine

/-! ### What arrivals leave of the state -/

/-- `t` comes from `s` by what arrivals write: heads and outputs, slots but not their recipes, the counts, the queue
with its overflow alarm. No head's profile or factor changes, no record is lost, and the in-flight count stays true. -/
structure Crossed (s t : State) : Prop where
  frame : t = { s with
    heads := t.heads
    outputs := t.outputs
    slots := t.slots
    pendingChangeovers := t.pendingChangeovers
    inFlight := t.inFlight
    reports := t.reports
    alarms := { s.alarms with reportOverflow := t.alarms.reportOverflow } }
  recipes : ∀ k, (t.slot k).recipe = (s.slot k).recipe
  records : s.reports.records <+: t.reports.records
  static : ∀ g, (t.head g).profile = (s.head g).profile ∧ (t.head g).factor = (s.head g).factor
  flight : s.flightCounted → t.flightCounted

theorem Crossed.refl (s : State) : Crossed s s := ⟨rfl, fun _ => rfl, List.prefix_rfl, fun _ => ⟨rfl, rfl⟩, id⟩

theorem Crossed.trans {s t u : State} (h₁ : Crossed s t) (h₂ : Crossed t u) : Crossed s u where
  frame := h₂.frame.trans (by rw [h₁.frame])
  recipes k := (h₂.recipes k).trans (h₁.recipes k)
  records := h₁.records.trans h₂.records
  static g := ⟨(h₂.static g).1.trans (h₁.static g).1, (h₂.static g).2.trans (h₁.static g).2⟩
  flight h := h₂.flight (h₁.flight h)

namespace Crossed
variable {s t : State}

theorem mode (h : Crossed s t) : t.mode = s.mode := by rw [h.frame]
theorem tracker (h : Crossed s t) : t.tracker = s.tracker := by rw [h.frame]
theorem clock (h : Crossed s t) : t.clock = s.clock := by rw [h.frame]
theorem corrections (h : Crossed s t) : t.corrections = s.corrections := by rw [h.frame]
theorem profiles (h : Crossed s t) : t.profiles = s.profiles := by rw [h.frame]
theorem drive (h : Crossed s t) : t.drive = s.drive := by rw [h.frame]
theorem productReady (h : Crossed s t) : t.productReady = s.productReady := by rw [h.frame]
theorem cal (h : Crossed s t) : t.cal = s.cal := by rw [h.frame]
theorem pins (h : Crossed s t) : t.pins = s.pins := by rw [h.frame]

theorem recipe (h : Crossed s t) (k : SlotId) : t.recipe k = s.recipe k := by
  unfold State.recipe; rw [h.recipes k]

theorem contact (h : Crossed s t) (g : HeadId) : t.contact g = s.contact g := by
  unfold State.contact; rw [h.pins]

theorem fillingMode (h : Crossed s t) : t.fillingMode = s.fillingMode := by
  unfold State.fillingMode; rw [h.mode]

theorem latchedContext (h : Crossed s t) (g : HeadId) (k : SlotId) (T : Nat) (b : Bool) :
    latchedContext t g k T b = latchedContext s g k T b := by
  unfold Machine.latchedContext State.correction
  obtain ⟨hp, hf⟩ := h.static g
  simp only [hp, hf, h.corrections, h.profiles, h.clock]

theorem fillTarget (h : Crossed s t) (k : SlotId) : t.fillTarget k = s.fillTarget k := by
  unfold State.fillTarget; rw [h.mode, h.cal, h.recipe]

end Crossed

/-! ### The in-flight count -/

theorem countP_allHeads_change {p q : HeadId → Bool} (h : HeadId) (hpq : ∀ g, g ≠ h → q g = p g) :
    allHeads.countP q + one (p h) = allHeads.countP p + one (q h) := by
  have split : ∀ r : HeadId → Bool, allHeads.countP r = (allHeads.erase h).countP r + one (r h) := by
    intro r
    rw [(List.perm_cons_erase (mem_allHeads h)).countP_eq, List.countP_cons]
    rfl
  have rest : (allHeads.erase h).countP q = (allHeads.erase h).countP p := by
    refine List.countP_congr fun g hg => ?_
    rw [hpq g (nodup_allHeads.mem_erase_iff.mp hg).1]
  rw [split p, split q, rest]; omega

/-- The in-flight count stays true where one head changes and the count follows it (R42). -/
theorem State.flightCounted_change {s t : State} (h : HeadId) (hothers : ∀ g, g ≠ h → t.head g = s.head g)
    (hcount : t.inFlight = s.inFlight + one (t.head h).cycle.inFlight - one (s.head h).cycle.inFlight)
    (hs : s.flightCounted) : t.flightCounted := by
  have change := countP_allHeads_change (p := fun g => (s.head g).cycle.inFlight)
    (q := fun g => (t.head g).cycle.inFlight) h fun g hg => by rw [hothers g hg]
  unfold State.flightCounted at *
  rw [hcount, hs]
  omega

/-! ### An operation on one head -/

/-- An operation of a crossing that touches the records and outputs of no head but `h`. -/
structure HeadTakes (h : HeadId) (s t : State) : Prop extends Crossed s t where
  others : ∀ g, g ≠ h → t.head g = s.head g ∧ t.output g = s.output g

namespace HeadTakes
variable {s t u : State} {h : HeadId}

theorem refl (s : State) (h : HeadId) : HeadTakes h s s := ⟨.refl s, fun _ _ => ⟨rfl, rfl⟩⟩

theorem trans (h₁ : HeadTakes h s t) (h₂ : HeadTakes h t u) : HeadTakes h s u where
  toCrossed := h₁.toCrossed.trans h₂.toCrossed
  others g hg := ⟨(h₂.others g hg).1.trans (h₁.others g hg).1, (h₂.others g hg).2.trans (h₁.others g hg).2⟩

/-- The profile and factor of every head follow from those of the one head that changes. -/
theorem static_of (hothers : ∀ g, g ≠ h → t.head g = s.head g)
    (hself : (t.head h).profile = (s.head h).profile ∧ (t.head h).factor = (s.head h).factor) (g : HeadId) :
    (t.head g).profile = (s.head g).profile ∧ (t.head g).factor = (s.head g).factor := by
  by_cases e : g = h
  · subst e; exact hself
  · rw [hothers g e]; exact ⟨rfl, rfl⟩

theorem enter (s : State) (h : HeadId) (c : CycleState) (tm : Option Timer) : HeadTakes h s (s.enter h c tm) where
  frame := rfl
  recipes _ := rfl
  records := List.prefix_rfl
  static := static_of (h := h) (fun g hg => by simp [hg]) (by simp)
  flight := State.flightCounted_change h (fun g hg => by simp [hg]) (by simp)
  others g hg := ⟨by simp [hg], by simp [hg]⟩

theorem updHead (s : State) (h : HeadId) {f : Head → Head} (hp : (f (s.head h)).profile = (s.head h).profile)
    (hf : (f (s.head h)).factor = (s.head h).factor) (hc : (f (s.head h)).cycle = (s.head h).cycle) :
    HeadTakes h s (s.updHead h f) where
  frame := rfl
  recipes _ := rfl
  records := List.prefix_rfl
  static := static_of (h := h) (fun g hg => by simp [hg]) (by simp [hp, hf])
  flight := State.flightCounted_change h (fun g hg => by simp [hg]) (by simp [hc])
  others g hg := ⟨by simp [hg], rfl⟩

theorem putOutput (s : State) (h : HeadId) (x : HeadOutputs) : HeadTakes h s (s.putOutput h x) where
  frame := rfl
  recipes _ := rfl
  records := List.prefix_rfl
  static _ := ⟨rfl, rfl⟩
  flight := id
  others g hg := ⟨rfl, by simp [hg]⟩

theorem goIdle (s : State) (h : HeadId) : HeadTakes h s (s.goIdle h) := by
  unfold State.goIdle
  exact ((updHead s h (by rfl) (by rfl) (by rfl)).trans (putOutput _ h _)).trans (enter _ h _ _)

theorem adopt (s : State) (h : HeadId) : HeadTakes h s (s.adopt h) := by
  obtain ⟨hframe, hhead, -, hrecipe, -⟩ := s.adopt_spec h
  have hothers : ∀ g, g ≠ h → (s.adopt h).head g = s.head g := fun g hg => by rw [hhead, if_neg hg]
  have hself := (hhead h).trans (if_pos rfl)
  refine ⟨⟨?_, hrecipe, ?_, static_of hothers ?_, State.flightCounted_change h hothers ?_⟩, fun g hg => ⟨hothers g hg, ?_⟩⟩
  · rw [hframe]
  · rw [hframe]
  · rw [hself]; exact ⟨rfl, rfl⟩
  · rw [hself, hframe]
    exact (Nat.add_sub_cancel _ _).symm
  · rw [hframe]; rfl

theorem enterPressurize (s : State) (h : HeadId) : HeadTakes h s (s.enterPressurize h) := by
  unfold State.enterPressurize
  dsimp only
  split
  · exact refl s h
  · split
    · exact ((adopt s h).trans (updHead _ h (by rfl) (by rfl) (by rfl))).trans (enter _ h _ _)
    · exact ((adopt s h).trans (updHead _ h (by rfl) (by rfl) (by rfl))).trans (enter _ h _ _)

theorem enterClosing (s : State) (h : HeadId) (late : Bool) : HeadTakes h s (s.enterClosing h late) := by
  unfold State.enterClosing
  split
  · exact refl s h
  · exact (updHead s h (by rfl) (by rfl) (by rfl)).trans (enter _ h _ _)

theorem filed_prefix (q : ReportQueue) (r : Report) : q.records <+: (q.filed r).records := by
  unfold ReportQueue.filed ReportQueue.stored
  split
  · exact List.prefix_append _ _
  · exact List.prefix_rfl

theorem reportSkipped (s : State) (h : HeadId) : HeadTakes h s (s.reportSkipped h) := by
  unfold State.reportSkipped
  dsimp only
  split
  · rw [State.reportUnfilled_eq, State.fileReport_eq]
    exact ⟨⟨rfl, fun _ => rfl, filed_prefix _ _, fun _ => ⟨rfl, rfl⟩, id⟩, fun _ _ => ⟨rfl, rfl⟩⟩
  · exact refl s h

theorem reportShortSnift (s : State) (h : HeadId) : HeadTakes h s (s.reportFill h .shortSnift) := by
  cases hf : (s.head h).fill with
  | none =>
    have e : s.reportFill h .shortSnift = s := by unfold State.reportFill; rw [hf]
    rw [e]; exact refl s h
  | some c =>
    have hself : (s.reportFill h .shortSnift).head h = { s.head h with fill := none } := by
      rw [State.head_reportFill hf, if_pos rfl, countedHead_unchanged (by simp)]
    have honly := OnlyHead.reportFill hf .shortSnift
    refine ⟨⟨?_, fun k => ?_, ?_, static_of (fun g => honly.head_ne) ?_,
      State.flightCounted_change h (fun g => honly.head_ne) ?_⟩, honly.1⟩
    · rw [honly.2]; simp only [locksOut_unchanged (v := .shortSnift) (by simp), Bool.or_false]; rfl
    · rw [honly.2]; rfl
    · rw [honly.2]; exact filed_prefix _ _
    · rw [hself]; exact ⟨rfl, rfl⟩
    · rw [hself, honly.2]; exact (Nat.add_sub_cancel _ _).symm

theorem beginPass (s : State) (h : HeadId) : HeadTakes h s (s.beginPass h) := by
  unfold State.beginPass
  dsimp only
  split
  · exact (updHead s h (by rfl) (by rfl) (by rfl)).trans (enter _ h _ _)
  · split
    · exact enterPressurize s h
    · split
      · exact enter s h _ _
      · exact refl s h

theorem infeed (s : State) (h : HeadId) : HeadTakes h s (s.infeed h) := by
  unfold State.infeed
  split
  · exact beginPass s h
  · exact (goIdle s h).trans (beginPass _ h)
  all_goals exact refl s h

theorem latestClose (s : State) (h : HeadId) : HeadTakes h s (s.latestClose h) := by
  unfold State.latestClose
  split
  · exact enterClosing s h true
  · exact refl s h

end HeadTakes

end Sys2Proof.Machine
end

section
/-! SUPPORT. What an arrival makes of its head's record, and a list of arrivals with the end of DRAINING set aside. -/

namespace Sys2Proof.Machine

/-! ### A discharge before MC judges the end of DRAINING -/

/-- Whether a discharge arrival moves a head in this state: not in IDLE or a cleaning state. -/
def CycleState.discharges (c : CycleState) : Bool :=
  decide (c ≠ .idle) && decide (c ≠ .cleanOpen) && decide (c ≠ .cleanPause)

/-- The report a head files at its discharge arrival: of an unfinished fill (R37), or of a skipped bottle (R26). -/
def State.reportDischarge (h : HeadId) (s : State) : State :=
  if (s.head h).cycle.holdsFill then s.reportFill h .shortSnift else s.reportSkipped h

/-- A discharge arrival without the judgement of R138. -/
def State.dischargeHead (h : HeadId) (s : State) : State :=
  if (s.head h).cycle.discharges then (s.reportDischarge h).goIdle h else s

/-- A discharge arrival is that, judged where the head was in flight (R37, R138). -/
theorem State.discharge_eq (s : State) (h : HeadId) : s.discharge h =
    if (s.head h).cycle.inFlight = true then (s.dischargeHead h).judgeDrain else s.dischargeHead h := by
  unfold State.discharge State.dischargeHead State.reportDischarge State.reportSkipped
  cases hc : (s.head h).cycle <;> simp [CycleState.discharges, CycleState.inFlight, CycleState.holdsFill,
    CycleState.isFillStage, State.endFill, State.leaveToIdle, hc]

theorem HeadTakes.reportDischarge (s : State) (h : HeadId) : HeadTakes h s (s.reportDischarge h) := by
  unfold State.reportDischarge
  split
  · exact .reportShortSnift s h
  · exact .reportSkipped s h

theorem HeadTakes.dischargeHead (s : State) (h : HeadId) : HeadTakes h s (s.dischargeHead h) := by
  unfold State.dischargeHead
  split
  · exact (HeadTakes.reportDischarge s h).trans (.goIdle _ h)
  · exact .refl s h

/-! ### The record of a head after an arrival -/

/-- The record of a head whose pass begins (R24 to R27, R51, R99), from its record in IDLE. -/
def passBegun (s : State) (h : HeadId) (x : Head) : Head :=
  if skips s x then { x with cycle := .skip, contactSeen := s.contact h, timer := none }
  else
    match x.windowSlot with
    | none => x
    | some k =>
      if s.contact h then
        { x with
          active := some k
          pendingSlot := none
          cycle := if (s.recipe k).pressurizeDwell = 0 then .fillSoft else .pressurize
          timer := if (s.recipe k).pressurizeDwell = 0 then none
            else some ⟨.pressurizeDwell, (s.recipe k).pressurizeDwell⟩
          fill := some (latchedContext s h k (s.fillTarget k) x.pendingSlot.isSome) }
      else { x with cycle := .waitBottle, timer := some ⟨.contactWindow, (s.recipe k).contactWindow⟩ }

/-- The record of a head whose fill is closed late (R30, R33). -/
def closedLate (s : State) (x : Head) : Head :=
  match x.fill with
  | none => x
  | some c =>
    { x with
      cycle := .closing
      timer := some ⟨.settle, (s.recipe c.slot).settleTime⟩
      fill := some { c with
        duration := fillDuration s.clock c.startTime
        flags := { c.flags with late := true } } }

/-- The record of a head after an arrival (R24, R30, R37, R38). -/
def arrived (s : State) (h : HeadId) (x : Head) : Boundary → Head
  | .infeed =>
    if x.cycle = .idle ∨ x.cycle = .done then passBegun s h (if x.cycle = .done then x.atRest else x) else x
  | .latestClose => if x.cycle.isFillStage then closedLate s x else x
  | .discharge => if x.cycle.discharges then x.atRest else x

theorem skips_congr {s t : State} (h : Crossed s t) (x : Head) : skips t x = skips s x := by
  unfold skips; rw [h.mode, h.productReady]

theorem passBegun_congr {s t : State} (hc : Crossed s t) (h : HeadId) (x : Head) : passBegun t h x = passBegun s h x := by
  unfold passBegun
  simp only [skips_congr hc, hc.contact, hc.recipe, hc.latchedContext, hc.fillTarget]

theorem arrived_congr {s t : State} (hc : Crossed s t) (h : HeadId) (x : Head) (b : Boundary) :
    arrived t h x b = arrived s h x b := by
  cases b with
  | infeed => simp only [arrived, passBegun_congr hc]
  | latestClose => simp only [arrived, closedLate, hc.recipe, hc.clock]
  | discharge => rfl

theorem windowSlot_eq_some {x : Head} {k : SlotId} :
    x.windowSlot = some k ↔ x.pendingSlot = some k ∨ (x.pendingSlot = none ∧ x.active = some k) := by
  unfold Head.windowSlot
  cases x.pendingSlot <;> simp

theorem enterPressurize_none {s : State} {h : HeadId} (hw : (s.head h).windowSlot = none) : s.enterPressurize h = s := by
  unfold Head.windowSlot at hw
  cases hp : (s.head h).pendingSlot with
  | some p => rw [hp] at hw; cases hw
  | none =>
    rw [hp] at hw
    have ha : s.adopt h = s := by unfold State.adopt; rw [hp]
    unfold State.enterPressurize
    rw [ha]
    simp only [show (s.head h).active = none from hw]

theorem head_beginPass (s : State) (h : HeadId) : (s.beginPass h).head h = passBegun s h (s.head h) := by
  unfold State.beginPass passBegun
  dsimp only
  split
  · simp
  · cases hw : (s.head h).windowSlot with
    | none =>
      simp only [enterPressurize_none hw, ite_self]
    | some k =>
      split
      · exact (State.enterPressurize_spec (windowSlot_eq_some.mp hw)).2.1
      · simp

theorem head_infeed (s : State) (h : HeadId) : (s.infeed h).head h = arrived s h (s.head h) .infeed := by
  have begun : ((s.goIdle h).beginPass h).head h = passBegun s h (s.head h).atRest := by
    rw [head_beginPass, passBegun_congr (HeadTakes.goIdle s h).toCrossed, State.head_goIdle, if_pos rfl]; rfl
  unfold State.infeed arrived
  cases hc : (s.head h).cycle <;> simp [head_beginPass, begun]

theorem head_latestClose (s : State) (h : HeadId) : (s.latestClose h).head h = arrived s h (s.head h) .latestClose := by
  unfold State.latestClose arrived closedLate
  split
  · cases hf : (s.head h).fill with
    | none => rw [State.enterClosing, hf]
    | some c => rw [(State.enterClosing_spec hf true).2.1]; simp
  · rfl

/-- The report of a discharge removes at most the fill context, which the head's rest removes anyway. -/
theorem cleared_reportDischarge (s : State) (h : HeadId) : ((s.reportDischarge h).head h).cleared = (s.head h).cleared := by
  unfold State.reportDischarge
  split
  · cases hf : (s.head h).fill with
    | none => rw [State.reportFill, hf]
    | some c => rw [State.head_reportFill hf, if_pos rfl, countedHead_unchanged (by simp)]; rfl
  · unfold State.reportSkipped
    dsimp only
    split
    · rw [State.reportUnfilled_eq, State.fileReport_eq]; rfl
    · rfl

theorem head_dischargeHead (s : State) (h : HeadId) :
    (s.dischargeHead h).head h = arrived s h (s.head h) .discharge := by
  unfold State.dischargeHead arrived
  split
  · rw [State.head_goIdle, if_pos rfl, cleared_reportDischarge]; rfl
  · rfl

/-! ### Arrivals one after the other -/

/-- An arrival taken without the judgement of R138. -/
def State.bring (s : State) (a : Arrival) : State :=
  match a.boundary with
  | .infeed => s.infeed a.head
  | .latestClose => s.latestClose a.head
  | .discharge => s.dischargeHead a.head

theorem State.bring_takes (s : State) (a : Arrival) : HeadTakes a.head s (s.bring a) := by
  unfold State.bring
  split
  · exact .infeed s _
  · exact .latestClose s _
  · exact .dischargeHead s _

theorem State.head_bring_self (s : State) (a : Arrival) :
    (s.bring a).head a.head = arrived s a.head (s.head a.head) a.boundary := by
  unfold State.bring
  cases hb : a.boundary
  · exact head_infeed s _
  · exact head_latestClose s _
  · exact head_dischargeHead s _

theorem State.head_bring (s : State) (a : Arrival) (h : HeadId) :
    (s.bring a).head h = if a.head = h then arrived s h (s.head h) a.boundary else s.head h := by
  split
  · next e => subst e; exact s.head_bring_self a
  · next e => exact ((s.bring_takes a).others h (Ne.symm e)).1

/-- In PRODUCTION and DRAINING an arrival is taken, and judged at a discharge of a head in flight (R138). -/
theorem State.takeArrival_eq {s : State} (hm : s.fillingMode = true) (a : Arrival) : s.takeArrival a =
    if a.boundary = .discharge ∧ (s.head a.head).cycle.inFlight = true then (s.bring a).judgeDrain else s.bring a := by
  unfold State.takeArrival State.bring
  rw [State.producing_eq_fillingMode, if_pos hm]
  cases a.boundary <;> simp [State.discharge_eq]

/-- The boundaries a list of arrivals brings to a head, in order. -/
def boundariesAt (h : HeadId) (l : List Arrival) : List Boundary :=
  (l.filter fun a => decide (a.head = h)).map Arrival.boundary

theorem foldl_bring_crossed (l : List Arrival) (s : State) : Crossed s (l.foldl State.bring s) := by
  induction l generalizing s with
  | nil => exact .refl s
  | cons a l ih => exact (s.bring_takes a).toCrossed.trans (ih _)

/-- Each head takes its own arrivals, whatever comes to the others (R8). -/
theorem head_foldl_bring (h : HeadId) (l : List Arrival) (s : State) :
    (l.foldl State.bring s).head h = (boundariesAt h l).foldl (arrived s h) (s.head h) := by
  induction l generalizing s with
  | nil => rfl
  | cons a l ih =>
    have same : arrived (s.bring a) h = arrived s h := by
      funext x b; exact arrived_congr (s.bring_takes a).toCrossed h x b
    rw [List.foldl_cons, ih, same, State.head_bring]
    unfold boundariesAt
    by_cases e : a.head = h
    · simp [e]
    · simp [e]

theorem output_foldl_bring_of_none {h : HeadId} {l : List Arrival} (hl : ∀ a ∈ l, a.head ≠ h) (s : State) :
    (l.foldl State.bring s).output h = s.output h := by
  induction l generalizing s with
  | nil => rfl
  | cons a l ih =>
    rw [List.foldl_cons, ih fun b hb => hl b (List.mem_cons_of_mem _ hb)]
    exact ((s.bring_takes a).others h (hl a List.mem_cons_self).symm).2

/-- A head's late close and its discharge close its outputs (R33, R37, R107). -/
theorem output_bring_closed {s : State} {a : Arrival} (ha : (a.boundary = .latestClose ∧
      (s.head a.head).cycle.isFillStage = true ∧ (s.head a.head).fill.isSome = true) ∨
        (a.boundary = .discharge ∧ (s.head a.head).cycle.discharges = true)) :
    ((s.bring a).output a.head).opened = Outputs.allOff := by
  unfold State.bring
  rcases ha with ⟨hb, hc, hf⟩ | ⟨hb, hc⟩
  · obtain ⟨c, hf⟩ := Option.isSome_iff_exists.mp hf
    rw [hb]
    show ((s.latestClose a.head).output a.head).opened = _
    unfold State.latestClose
    rw [if_pos hc]
    exact (State.enterClosing_spec hf true).2.2
  · rw [hb]
    show ((s.dischargeHead a.head).output a.head).opened = _
    unfold State.dischargeHead
    rw [if_pos hc, State.output_goIdle, if_pos rfl]

/-- The same after a list that brings the head that one arrival. -/
theorem output_foldl_bring_closed {h : HeadId} {l : List Arrival} {s : State} {b : Boundary}
    (hl : boundariesAt h l = [b]) (hb : (b = .latestClose ∧ (s.head h).cycle.isFillStage = true ∧
      (s.head h).fill.isSome = true) ∨ (b = .discharge ∧ (s.head h).cycle.discharges = true)) :
    ((l.foldl State.bring s).output h).opened = Outputs.allOff := by
  unfold boundariesAt at hl
  obtain ⟨a, hfilter, hab⟩ := List.map_eq_singleton_iff.mp hl
  obtain ⟨l₁, l₂, rfl, h₁, hah, h₂⟩ := List.filter_eq_cons_iff.mp hfilter
  simp only [decide_eq_true_eq] at h₁ hah
  subst hah
  have before : (l₁.foldl State.bring s).head a.head = s.head a.head := by
    have none₁ : boundariesAt a.head l₁ = [] := by
      unfold boundariesAt; rw [List.filter_eq_nil_iff.mpr (by simpa using h₁)]; rfl
    rw [head_foldl_bring, none₁]; rfl
  rw [List.foldl_append, List.foldl_cons, output_foldl_bring_of_none (by simpa using List.filter_eq_nil_iff.mp h₂)]
  refine output_bring_closed ?_
  rw [before, hab]; exact hb

end Sys2Proof.Machine
end

section
/-! SUPPORT. The arrivals of one forward crossing: which are raised, and their order at one head (R4, R5, R8). -/

namespace Sys2Proof.Machine

/-! ### Distances -/

theorem toNat_wrapAngle (a : Nat) : (wrapAngle a).toNat = a % 65536 := by
  unfold wrapAngle; rw [BitVec.toNat_ofNat]

theorem toNat_angle_sub (x y : BitVec 16) : ((x - y).toNat : Int) = ((x.toNat : Int) - y.toNat) % 65536 := by
  have := x.isLt
  have := y.isLt
  rw [BitVec.toNat_sub]
  omega

theorem arrivalDistance_eq (g : Geometry) (c : Nat) (b : Boundary) (h : HeadId) :
    (arrivalDistance g c b h : Int) = distanceAhead g c b h := by
  unfold arrivalDistance headAngle distanceAhead headOffset carouselAngle
  rw [toNat_angle_sub, toNat_angle_sub, toNat_angle_sub]
  simp only [toNat_wrapAngle]
  omega

theorem stepSpan_eq (g : Geometry) (c : Nat) : (stepSpan g c : Int) = spanAhead g c := by
  unfold stepSpan spanAhead carouselAngle
  rw [toNat_angle_sub]
  simp only [toNat_wrapAngle]
  omega

theorem between_distance (g : Geometry) (c : Nat) (b : Boundary) (h : HeadId) :
    between 1 (stepSpan g c) (arrivalDistance g c b h) = true ↔
      1 ≤ distanceAhead g c b h ∧ distanceAhead g c b h ≤ spanAhead g c := by
  rw [← arrivalDistance_eq, ← stepSpan_eq]
  simp only [between, Bool.and_eq_true, decide_eq_true_eq]
  omega

/-- With the coarsest encoder that R1 admits, one step spans less than the gap between two boundaries (R1, R4). -/
theorem spanAhead_le {g : Geometry} (hg : 1024 ≤ g.cpr) (c : Nat) : spanAhead g c ≤ 65 := by
  have hpos : 0 < g.cpr := by omega
  have wrap : (c + 1) * 65536 / g.cpr = (c + 1) % g.cpr * 65536 / g.cpr + (c + 1) / g.cpr * 65536 := by
    have parts : (c + 1) * 65536 = (c + 1) % g.cpr * 65536 + g.cpr * ((c + 1) / g.cpr * 65536) := by
      calc (c + 1) * 65536 = ((c + 1) % g.cpr + g.cpr * ((c + 1) / g.cpr)) * 65536 := by rw [Nat.mod_add_div]
        _ = _ := by ring
    rw [parts, Nat.add_mul_div_left _ _ hpos]
  have lower := Nat.div_add_mod (c * 65536) g.cpr
  have near : (c + 1) * 65536 / g.cpr ≤ c * 65536 / g.cpr + 64 + 1 := by
    have hr := Nat.mod_lt (c * 65536) hpos
    rw [← Nat.lt_succ_iff, Nat.div_lt_iff_lt_mul hpos]
    calc (c + 1) * 65536 = c * 65536 + 65536 := by ring
      _ < g.cpr * (c * 65536 / g.cpr) + g.cpr + 64 * g.cpr + g.cpr := by omega
      _ = (c * 65536 / g.cpr + 64 + 1).succ * g.cpr := by rw [Nat.succ_eq_add_one]; ring
  have far : c * 65536 / g.cpr ≤ (c + 1) * 65536 / g.cpr := Nat.div_le_div_right (by omega)
  unfold spanAhead
  omega

/-- Where one step raises a head's discharge and its infeed, the discharge is the nearer (R1, R8). -/
theorem discharge_before_infeed {g : Geometry} (hg : geometryAcceptable g = true) {c : Nat} {h : HeadId}
    (hd : raisesAt g c .discharge h = true) (hi : raisesAt g c .infeed h = true) :
    arrivalDistance g c .discharge h < arrivalDistance g c .infeed h := by
  simp only [geometryAcceptable, Bool.and_eq_true, decide_eq_true_eq] at hg
  simp only [raisesAt, Bool.and_eq_true, decide_eq_true_eq] at hd hi
  have span := spanAhead_le (g := g) (by omega) c
  have hdist : distanceAhead g c .discharge h < distanceAhead g c .infeed h := by
    unfold distanceAhead boundaryAngle at *
    dsimp only at *
    omega
  rw [← arrivalDistance_eq, ← arrivalDistance_eq] at hdist
  exact_mod_cast hdist

/-! ### The arrivals raised -/

/-- The arrival of a boundary at a head in the crossing from a count. -/
def arrivalOf (g : Geometry) (c : Nat) (h : HeadId) (b : Boundary) : Arrival := ⟨h, b, arrivalDistance g c b h⟩

theorem mem_arrivalsRaised {g : Geometry} {c : Nat} {a : Arrival} :
    a ∈ arrivalsRaised g c ↔ raisesAt g c a.boundary a.head = true ∧ a = arrivalOf g c a.head a.boundary := by
  have raised : ∀ h b, raisesAt g c b h = true ↔
      h.val < g.headCount ∧ between 1 (stepSpan g c) (arrivalDistance g c b h) = true := by
    intro h b
    rw [between_distance]
    simp only [raisesAt, Bool.and_eq_true, decide_eq_true_eq, and_assoc]
  have listed : ∀ b : Boundary, b ∈ [Boundary.infeed, .latestClose, .discharge] := by intro b; cases b <;> simp
  unfold arrivalsRaised
  simp only [List.mem_flatMap, List.mem_filter, mem_allHeads, true_and, decide_eq_true_eq, List.mem_filterMap,
    Option.ite_none_right_eq_some, Option.some.injEq, raised]
  constructor
  · rintro ⟨h, hh, b, -, hb, rfl⟩
    exact ⟨⟨hh, hb⟩, rfl⟩
  · rintro ⟨⟨hh, hb⟩, e⟩
    exact ⟨a.head, hh, a.boundary, listed _, hb, e.symm⟩

theorem nodup_arrivalsRaised (g : Geometry) (c : Nat) : (arrivalsRaised g c).Nodup := by
  unfold arrivalsRaised
  rw [List.nodup_flatMap]
  constructor
  · intro h _
    refine List.Nodup.filterMap (fun b b' a hb hb' => ?_) (by decide)
    simp only [Option.mem_def, Option.ite_none_right_eq_some, Option.some.injEq] at hb hb'
    exact (congrArg Arrival.boundary (hb.2.trans hb'.2.symm))
  · refine (nodup_allHeads.filter _).imp fun {h h'} hne => ?_
    intro a ha ha'
    simp only [List.mem_filterMap, Option.ite_none_right_eq_some, Option.some.injEq] at ha ha'
    obtain ⟨b, -, -, rfl⟩ := ha
    obtain ⟨b', -, -, e⟩ := ha'
    exact hne (congrArg Arrival.head e).symm

/-! ### The order in which they are taken -/

/-- The arrivals of the crossing from a count, in the order they are taken (R8). -/
def crossingArrivals (first : Bool) (g : Geometry) (c : Nat) : List Arrival :=
  (arrivalsRaised g c).insertionSort fun a b => takenBefore first a b = true

theorem mem_crossingArrivals {first : Bool} {g : Geometry} {c : Nat} {a : Arrival} :
    a ∈ crossingArrivals first g c ↔ raisesAt g c a.boundary a.head = true ∧ a = arrivalOf g c a.head a.boundary := by
  unfold crossingArrivals
  rw [List.mem_insertionSort, mem_arrivalsRaised]

theorem nodup_crossingArrivals (first : Bool) (g : Geometry) (c : Nat) : (crossingArrivals first g c).Nodup :=
  (List.perm_insertionSort _ _).nodup_iff.mpr (nodup_arrivalsRaised g c)

theorem takenBefore_iff {first : Bool} {a b : Arrival} : takenBefore first a b = true ↔
    a.distance < b.distance ∨ (a.distance = b.distance ∧ tieRank first a.boundary ≤ tieRank first b.boundary) := by
  simp [takenBefore]

theorem pairwise_crossingArrivals (first : Bool) (g : Geometry) (c : Nat) :
    (crossingArrivals first g c).Pairwise fun a b => takenBefore first a b = true := by
  have : Std.Total fun a b : Arrival => takenBefore first a b = true :=
    ⟨fun a b => by simp only [takenBefore_iff]; omega⟩
  have : IsTrans Arrival fun a b => takenBefore first a b = true :=
    ⟨fun a b d => by simp only [takenBefore_iff]; omega⟩
  exact List.pairwise_insertionSort _ _

theorem mem_filter_crossingArrivals {first : Bool} {g : Geometry} {c : Nat} {h : HeadId} {a : Arrival} :
    a ∈ (crossingArrivals first g c).filter (fun a => decide (a.head = h)) ↔
      ∃ b, raisesAt g c b h = true ∧ a = arrivalOf g c h b := by
  rw [List.mem_filter, mem_crossingArrivals, decide_eq_true_eq]
  constructor
  · rintro ⟨⟨hr, e⟩, rfl⟩
    exact ⟨a.boundary, hr, e⟩
  · rintro ⟨b, hr, rfl⟩
    exact ⟨⟨hr, rfl⟩, rfl⟩

/-- The boundaries of a head in a crossing are those that R8 raises. -/
theorem mem_boundariesAt_crossing {first : Bool} {g : Geometry} {c : Nat} {h : HeadId} {b : Boundary} :
    b ∈ boundariesAt h (crossingArrivals first g c) ↔ raisesAt g c b h = true := by
  unfold boundariesAt
  simp only [List.mem_map, mem_filter_crossingArrivals]
  constructor
  · rintro ⟨a, ⟨b', hr, rfl⟩, rfl⟩; exact hr
  · exact fun hr => ⟨_, ⟨b, hr, rfl⟩, rfl⟩

theorem nodup_boundariesAt_crossing (first : Bool) (g : Geometry) (c : Nat) (h : HeadId) :
    (boundariesAt h (crossingArrivals first g c)).Nodup := by
  refine List.Nodup.map_on (fun a ha a' ha' e => ?_) ((nodup_crossingArrivals first g c).filter _)
  rw [mem_filter_crossingArrivals] at ha ha'
  obtain ⟨b, -, rfl⟩ := ha
  obtain ⟨b', -, rfl⟩ := ha'
  rw [show b = b' from e]

theorem boundariesAt_crossing_nil {first : Bool} {g : Geometry} {c : Nat} {h : HeadId}
    (hr : ∀ b, raisesAt g c b h = false) : boundariesAt h (crossingArrivals first g c) = [] := by
  refine List.eq_nil_iff_forall_not_mem.mpr fun b hb => ?_
  rw [mem_boundariesAt_crossing, hr b] at hb
  cases hb

theorem boundariesAt_crossing_single {first : Bool} {g : Geometry} {c : Nat} {h : HeadId} {b : Boundary}
    (hr : ∀ b', raisesAt g c b' h = decide (b' = b)) : boundariesAt h (crossingArrivals first g c) = [b] := by
  refine List.perm_singleton.mp ?_
  refine (List.perm_ext_iff_of_nodup (nodup_boundariesAt_crossing first g c h) (List.nodup_singleton b)).mpr fun b' => ?_
  rw [mem_boundariesAt_crossing, hr b', List.mem_singleton, decide_eq_true_eq]

theorem boundariesAt_crossing_pair {first : Bool} {g : Geometry} {c : Nat} {h : HeadId}
    (hg : geometryAcceptable g = true) (hr : ∀ b, raisesAt g c b h = decide (b ≠ .latestClose)) :
    boundariesAt h (crossingArrivals first g c) = [.discharge, .infeed] := by
  have nearer := discharge_before_infeed hg (hr .discharge) (hr .infeed)
  have hperm : (boundariesAt h (crossingArrivals first g c)).Perm [.discharge, .infeed] := by
    refine (List.perm_ext_iff_of_nodup (nodup_boundariesAt_crossing first g c h) (by decide)).mpr fun b => ?_
    rw [mem_boundariesAt_crossing, hr b]
    cases b <;> simp
  have hsorted : (boundariesAt h (crossingArrivals first g c)).Pairwise fun b b' =>
      arrivalDistance g c b h ≤ arrivalDistance g c b' h := by
    unfold boundariesAt
    rw [List.pairwise_map]
    refine ((pairwise_crossingArrivals first g c).filter _).imp_of_mem fun ha ha' hab => ?_
    obtain ⟨b, -, rfl⟩ := mem_filter_crossingArrivals.mp ha
    obtain ⟨b', -, rfl⟩ := mem_filter_crossingArrivals.mp ha'
    rw [takenBefore_iff] at hab
    show arrivalDistance g c b h ≤ arrivalDistance g c b' h
    exact hab.elim le_of_lt fun e => le_of_eq e.1
  refine (List.perm_pair.mp hperm).resolve_right fun e => ?_
  rw [e, List.pairwise_pair] at hsorted
  omega

/-! ### How many -/

theorem countP_discharge_le (first : Bool) (g : Geometry) (c : Nat) :
    (crossingArrivals first g c).countP (fun a => decide (a.boundary = .discharge)) ≤ 64 := by
  rw [List.countP_eq_length_filter]
  have hnodup : (((crossingArrivals first g c).filter fun a => decide (a.boundary = .discharge)).map Arrival.head).Nodup := by
    refine List.Nodup.map_on (fun a ha a' ha' e => ?_) ((nodup_crossingArrivals first g c).filter _)
    simp only [List.mem_filter, decide_eq_true_eq, mem_crossingArrivals] at ha ha'
    obtain ⟨⟨-, ea⟩, hb⟩ := ha
    obtain ⟨⟨-, ea'⟩, hb'⟩ := ha'
    rw [ea, ea', e, hb, hb']
  have := hnodup.length_le_card
  rwa [List.length_map, Fintype.card_fin] at this

end Sys2Proof.Machine
end

section
/-! SUPPORT. A whole crossing: the arrivals as they are taken, with the end of DRAINING, and the index mark after it. -/

namespace Sys2Proof.Machine

/-! ### DRAINING and its end -/

theorem State.fillingMode_of_draining {s : State} (hm : s.mode = .draining) : s.fillingMode = true :=
  s.fillingMode_iff.mpr (.inr hm)

theorem skips_draining {s : State} (hm : s.mode = .draining) (x : Head) : skips s x = true := by
  unfold skips; simp [hm]

/-- In DRAINING a head is in flight after an arrival if it was before, and the arrival is no discharge (R24, R37). -/
theorem arrived_inFlight {s : State} (hm : s.mode = .draining) (h : HeadId) (x : Head) (b : Boundary) :
    (arrived s h x b).cycle.inFlight = (x.cycle.inFlight && decide (b ≠ .discharge)) := by
  cases b with
  | infeed =>
    unfold arrived passBegun
    simp only [skips_draining hm, if_true]
    split
    · next hc => rcases hc with hc | hc <;> simp [hc, CycleState.inFlight]
    · simp
  | latestClose =>
    unfold arrived closedLate
    dsimp only
    split
    · next hc =>
      split
      · simp
      · cases hx : x.cycle <;> simp [hx, CycleState.isFillStage, CycleState.inFlight] at hc ⊢
    · simp
  | discharge =>
    unfold arrived
    dsimp only
    split
    · simp [Head.atRest, CycleState.inFlight]
    · next hc => cases hx : x.cycle <;> simp [hx, CycleState.discharges, CycleState.inFlight] at hc ⊢

/-- In DRAINING no arrival changes what a head keeps at rest (R24, R37). -/
theorem arrived_atRest {s : State} (hm : s.mode = .draining) (h : HeadId) (x : Head) (b : Boundary) :
    (arrived s h x b).atRest = x.atRest := by
  cases b with
  | infeed =>
    unfold arrived passBegun
    simp only [skips_draining hm, if_true]
    split
    · split <;> rfl
    · rfl
  | latestClose =>
    unfold arrived closedLate
    dsimp only
    split
    · split <;> rfl
    · rfl
  | discharge =>
    unfold arrived
    dsimp only
    split <;> rfl

theorem atRest_foldl_bring {s : State} (hm : s.mode = .draining) (l : List Arrival) (h : HeadId) :
    ((l.foldl State.bring s).head h).atRest = (s.head h).atRest := by
  rw [head_foldl_bring]
  generalize s.head h = x
  induction boundariesAt h l generalizing x with
  | nil => rfl
  | cons b bs ih => rw [List.foldl_cons, ih, arrived_atRest hm]

/-- A head in flight in DRAINING stays in flight until its discharge comes. -/
theorem inFlight_foldl_bring {s : State} (hm : s.mode = .draining) (l : List Arrival) (h : HeadId) :
    ((l.foldl State.bring s).head h).cycle.inFlight = true ↔
      (s.head h).cycle.inFlight = true ∧ .discharge ∉ boundariesAt h l := by
  rw [head_foldl_bring]
  generalize s.head h = x
  induction boundariesAt h l generalizing x with
  | nil => simp
  | cons b bs ih => rw [List.foldl_cons, ih, arrived_inFlight hm]; cases b <;> simp

theorem flightCounted_zero {s : State} (hs : s.flightCounted) :
    s.inFlight = 0 ↔ ∀ g, (s.head g).cycle.inFlight = false := by
  unfold State.flightCounted at hs
  rw [hs, List.countP_eq_zero]
  simp

/-- Arrivals that come after the end of DRAINING are not taken (Log 12). -/
theorem foldl_takeArrival_standby {s : State} (hm : s.mode = .standby) (l : List Arrival) :
    l.foldl State.takeArrival s = s := by
  refine foldl_fixed _ (fun a => ?_) l
  unfold State.takeArrival
  rw [hm]; rfl

/-- The crossing of `l` from `s` ends DRAINING at some discharge of a head in flight: the arrivals up to it are taken,
and R138 ends the mode. -/
def EndsDrainingAt (s : State) (l l₁ : List Arrival) : Prop :=
  s.mode = .draining ∧ l₁ <+: l ∧ (∃ g, (s.head g).cycle.inFlight = true) ∧ (l₁.foldl State.bring s).inFlight = 0 ∧
    l.foldl State.takeArrival s = (l₁.foldl State.bring s).endDraining

/-- A crossing in PRODUCTION or DRAINING takes all arrivals, or ends DRAINING on the way. Where it does not end DRAINING
and a head is in flight, one still is. -/
theorem foldl_takeArrival_cases (l : List Arrival) {s : State} (hm : s.fillingMode = true) :
    (l.foldl State.takeArrival s = l.foldl State.bring s ∧
        (s.mode = .draining → s.flightCounted → (∃ g, (s.head g).cycle.inFlight = true) →
          ∃ g, ((l.foldl State.bring s).head g).cycle.inFlight = true)) ∨
      ∃ l₁, EndsDrainingAt s l l₁ := by
  induction l generalizing s with
  | nil => exact .inl ⟨rfl, fun _ _ h => h⟩
  | cons a l ih =>
    have hc := (s.bring_takes a).toCrossed
    by_cases hend : s.mode = .draining ∧ (a.boundary = .discharge ∧ (s.head a.head).cycle.inFlight = true) ∧
        (s.bring a).inFlight = 0
    · obtain ⟨hd, hleaves, hzero⟩ := hend
      have htaken : s.takeArrival a = (s.bring a).endDraining := by
        rw [State.takeArrival_eq hm, if_pos hleaves, State.judgeDrain_ends (hc.mode.trans hd) hzero]
      refine .inr ⟨[a], hd, by simp, ⟨a.head, hleaves.2⟩, hzero, ?_⟩
      rw [List.foldl_cons, htaken, foldl_takeArrival_standby (by rw [(State.endDraining_spec _).2])]
      rfl
    · have htaken : s.takeArrival a = s.bring a := by
        rw [State.takeArrival_eq hm]
        split
        · next hleaves =>
          refine State.judgeDrain_of_ne ?_
          rw [hc.mode]
          by_contra hno
          simp only [not_or, not_not] at hno
          exact hend ⟨hno.1, hleaves, hno.2⟩
        · rfl
      have hstill : s.mode = .draining → s.flightCounted → (∃ g, (s.head g).cycle.inFlight = true) →
          ∃ g, ((s.bring a).head g).cycle.inFlight = true := by
        rintro hd hcount ⟨g, hg⟩
        by_cases hleaves : a.boundary = .discharge ∧ (s.head a.head).cycle.inFlight = true
        · by_contra hno
          exact hend ⟨hd, hleaves, (flightCounted_zero (hc.flight hcount)).mpr (by simpa using hno)⟩
        · refine ⟨g, ?_⟩
          rw [State.head_bring]
          split
          · next e =>
            subst e
            rw [arrived_inFlight hd, hg]
            simpa [hg] using hleaves
          · exact hg
      rw [List.foldl_cons, List.foldl_cons, htaken]
      rcases ih (hc.fillingMode.trans hm) with ⟨heq, hfl⟩ | ⟨l₁, hd, hl₁, ⟨g, hg⟩, hzero, heq⟩
      · exact .inl ⟨heq, fun hd hcount hex =>
          hfl (hc.mode.trans hd) (hc.flight hcount) (hstill hd hcount hex)⟩
      · have hd' := hc.mode.symm.trans hd
        refine .inr ⟨a :: l₁, hd', ?_, ⟨g, ?_⟩, hzero, ?_⟩
        · simpa using hl₁
        · exact ((inFlight_foldl_bring hd' [a] g).mp hg).1
        · rw [List.foldl_cons, htaken]; exact heq

/-! ### The state a crossing starts from -/

/-- The state whose heads take the arrivals of a forward step: the count advanced, and in DRAINING the free order
moved on (R6, Log 11). -/
def State.stepped (s : State) : State :=
  { s with
    tracker := { s.tracker with count := (s.tracker.count + 1) % s.tracker.geometry.cpr }
    choices := if s.mode = .draining then s.choices + 1 else s.choices }

/-- The arrivals of the forward step from a state, in order. -/
def State.arrivals (s : State) : List Arrival :=
  crossingArrivals (infeedFirst s) s.tracker.geometry s.tracker.count

theorem State.stepForward_arrivals {s : State} (hl : s.tracker.lead = 0) (hm : s.fillingMode = true) :
    s.stepForward = s.arrivals.foldl State.takeArrival s.stepped := by
  rw [State.stepForward_crossing hl hm]
  rfl

/-! ### Heads at rest -/

/-- All heads of a state are at rest, as after the end of DRAINING (R43). -/
def State.resting (s : State) : Prop := HeadsAtRest s s

theorem HeadsAtRest.resting {s t : State} (h : HeadsAtRest s t) (hd : t.drive = s.drive) (hp : t.profiles = s.profiles) :
    t.resting := by
  obtain ⟨hhead, hout, hflight⟩ := h
  refine ⟨fun g => by rw [hhead g]; rfl, fun g => ?_, hflight⟩
  have hprofile : (t.head g).profile = (s.head g).profile := by rw [hhead g]; rfl
  rw [hout g]
  simp only [hd, hp, hprofile]

/-- Heads at rest file nothing at a halt (R44). -/
theorem haltContent_resting {s : State} (h : s.resting) : allHeads.filterMap (haltContent s) = [] := by
  refine List.filterMap_eq_nil_iff.mpr fun g _ => ?_
  have hc : (s.head g).cycle = .idle := by rw [h.1 g]; rfl
  unfold haltContent
  rw [hc]
  simp [CycleState.holdsFill, CycleState.isFillStage]

theorem DrainedFrom.resting {s t : State} (h : DrainedFrom s t) : t.resting :=
  HeadsAtRest.resting h.1 (by rw [h.2]) (by rw [h.2])

/-- After a forward step of the production cycle the cycle still runs, or DRAINING has ended (R9, R138). -/
theorem State.stepForward_filling {s : State} (hm : s.fillingMode = true) :
    s.stepForward.fillingMode = true ∨ (s.stepForward.mode = .standby ∧ s.stepForward.resting) := by
  by_cases hl : s.tracker.lead = 0
  · have hm' : s.stepped.fillingMode = true := hm
    rw [State.stepForward_arrivals hl hm]
    rcases foldl_takeArrival_cases s.arrivals hm' with ⟨heq, -⟩ | ⟨l₁, -, -, -, -, heq⟩
    · rw [heq, (foldl_bring_crossed _ _).fillingMode]; exact .inl hm'
    · rw [heq]
      have drained := State.endDraining_spec (l₁.foldl State.bring s.stepped)
      exact .inr ⟨by rw [drained.2], drained.resting⟩
  · rw [State.stepForward_quiet (.inl (Nat.pos_of_ne_zero hl))]
    exact .inl hm

/-! ### The index mark (R10 to R12) -/

theorem indexInBand_iff (t : Tracker) : indexInBand t = true ↔
    t.count ≤ t.geometry.indexTolerance ∨ t.geometry.cpr ≤ t.count + t.geometry.indexTolerance := by
  simp [indexInBand]

theorem State.checkIndex_inBand {s : State} (h : indexInBand s.tracker = true) :
    s.checkIndex = { s with tracker := { s.tracker with count := 0, slips := 0 } } := by
  unfold State.checkIndex; dsimp only; rw [if_pos h]

theorem State.checkIndex_firstSlip {s : State} (h : ¬indexInBand s.tracker = true) (hn : s.tracker.slips = 0) :
    s.checkIndex = { s with
      tracker := { s.tracker with count := 0, slips := 1 }
      alarms := { s.alarms with indexSlip := true } } := by
  unfold State.checkIndex; dsimp only; rw [if_neg h, hn]; rfl

/-- The second slip in a row before it faults the tracker (R12). -/
def State.slippedTwice (s : State) : State :=
  { s with tracker := { s.tracker with count := 0, slips := 2 }, alarms := { s.alarms with indexSlip := true } }

theorem State.checkIndex_secondSlip {s : State} (h : ¬indexInBand s.tracker = true) (hn : s.tracker.slips = 1) :
    s.checkIndex = s.slippedTwice.faultTracker := by
  unfold State.checkIndex; dsimp only; rw [if_neg h, hn]; rfl

/-- A second slip outside PRODUCTION and DRAINING (R14, R143). -/
theorem State.checkIndex_faults {u : State} (h : ¬indexInBand u.tracker = true) (hn : u.tracker.slips = 1)
    (hm : u.fillingMode = false) : u.checkIndex = { u with
      tracker := { u.tracker with count := 0, slips := 2, status := .faulted }
      alarms := { u.alarms with indexSlip := true, encoderFault := true }
      mode := if u.mode = .standby then .halted else u.mode } := by
  rw [State.checkIndex_secondSlip h hn]
  by_cases hstandby : u.mode = .standby
  · rw [if_pos hstandby, State.faultTracker_standby (s := u.slippedTwice) hstandby]; rfl
  · have hheld : u.mode = .halted ∨ u.mode = .cleaning ∨ u.mode = .calibration := by
      cases hmode : u.mode <;> simp [hmode, State.fillingMode] at hm hstandby ⊢
    rw [if_neg hstandby, State.faultTracker_held (s := u.slippedTwice) hheld]; rfl

/-- The halt of a second slip, after a forward step that may have ended DRAINING (R14, R43, R44, R143). -/
theorem State.checkIndex_halts {u : State} (h : ¬indexInBand u.tracker = true) (hn : u.tracker.slips = 1)
    (hu : u.fillingMode = true ∨ (u.mode = .standby ∧ u.resting)) :
    let filed := allHeads.filterMap (haltContent u)
    HeadsAtRest u u.checkIndex ∧ u.checkIndex = { u with
      tracker := { u.tracker with count := 0, slips := 2, status := .faulted }
      heads := u.checkIndex.heads
      outputs := u.checkIndex.outputs
      inFlight := 0
      reports := u.reports.filedAll filed
      alarms := { u.alarmsFiled filed.length with indexSlip := true, encoderFault := true }
      mode := .halted } := by
  intro filed
  rw [State.checkIndex_secondSlip h hn]
  rcases hu with hm | ⟨hm, hrest⟩
  · obtain ⟨hr, heq⟩ := State.faultTracker_filling (s := u.slippedTwice) hm
    exact ⟨hr, heq⟩
  · have hnone : filed = [] := haltContent_resting hrest
    have hquiet : u.alarmsFiled filed.length = u.alarms := by rw [hnone]; simp [State.alarmsFiled]
    rw [State.faultTracker_standby (s := u.slippedTwice) hm, hquiet, hnone]
    refine ⟨hrest, ?_⟩
    have hz : u.inFlight = 0 := hrest.2.2
    congr 1

theorem exec_indexMarkStep {s : State} (hs : s.running = true) :
    exec .indexMarkStep s = .next (if s.tracker.status = .faulted then s else s.markIndex) := by
  show execIndexMarkStep s = _
  rw [execIndexMarkStep_eq, event_of_running hs]

/-- On a REFERENCED tracker the mark is the forward step and the check (R11). -/
theorem exec_indexMarkStep_referenced {s : State} (hs : s.running = true) (hr : s.tracker.status = .referenced) :
    exec .indexMarkStep s = .next s.stepForward.checkIndex := by
  rw [exec_indexMarkStep hs, if_neg (by rw [hr]; decide)]
  unfold State.markIndex
  rw [if_neg (by rw [hr]; decide)]

/-- Settles O15: the mark outside the production cycle, where the forward step raises no arrivals, and inside it. -/
theorem indexMarkReferencesAndChecks : Obligations.IndexMarkReferencesAndChecks := by
  intro s hs g c good lead
  have htracker := s.stepForward_tracker
  have hband : indexInBand s.stepForward.tracker = true ↔ good := by rw [htracker, indexInBand_iff]
  refine ⟨fun hf => ?_, fun hm => ?_, fun hm hr => ?_⟩
  · rw [exec_indexMarkStep hs, if_pos hf]
  · have hquiet := State.stepForward_quiet (s := s) (.inr hm)
    refine ⟨fun hu => ?_, fun hr hg => ?_, fun hr hg hn => ?_, fun hr hg hn => ?_⟩
    · rw [exec_indexMarkStep hs, if_neg (by rw [hu]; decide)]
      unfold State.markIndex
      rw [if_pos hu, hquiet]
    · rw [exec_indexMarkStep_referenced hs hr, State.checkIndex_inBand (hband.mpr hg), hquiet, ← hr]
    · rw [exec_indexMarkStep_referenced hs hr, State.checkIndex_firstSlip (hband.not.mpr hg) (by rw [htracker]; exact hn),
        hquiet, ← hr]
    · have hmode : s.stepForward.mode = s.mode := by rw [hquiet]
      rw [exec_indexMarkStep_referenced hs hr, State.checkIndex_faults (hband.not.mpr hg) (by rw [htracker]; exact hn)
        (by simpa [State.fillingMode, hmode] using hm), hquiet]
  · have hforward : exec .encoderForwardStep s = .next s.stepForward := by
      rw [exec_encoderForwardStep hs, if_neg (by rw [hr]; decide)]
    have hdone := State.stepForward_filling hm
    refine ⟨s.stepForward, hforward, ?_⟩
    rw [exec_indexMarkStep_referenced hs hr]
    generalize s.stepForward = u at htracker hband hdone ⊢
    have hu : u.tracker = ⟨g, c, lead, s.tracker.slips, .referenced⟩ := by rw [htracker, ← hr]
    refine ⟨fun hg => ?_, fun hg hn => ?_, fun hg hn => ⟨_, rfl, ?_⟩⟩
    · rw [State.checkIndex_inBand (hband.mpr hg), hu]
    · rw [State.checkIndex_firstSlip (hband.not.mpr hg) (by rw [hu]; exact hn), hu]
    · obtain ⟨hrest, heq⟩ := State.checkIndex_halts (hband.not.mpr hg) (by rw [hu]; exact hn) hdone
      rw [hu] at heq
      exact ⟨hrest, heq⟩

end Sys2Proof.Machine
end

section
/-! SUPPORT. The reports of a crossing: where there is room, what a head files at its discharge is in the queue at the
end, whatever the other heads file (R37, R121). -/

namespace Sys2Proof.Machine

/-! ### The queue with room -/

theorem ReportQueue.mem_filed {q : ReportQueue} (hroom : q.records.length < 256) (r : Report) :
    r ∈ (q.filed r).records := by
  unfold ReportQueue.filed ReportQueue.stored
  rw [if_pos hroom]; simp

theorem ReportQueue.filed_length_le (q : ReportQueue) (r : Report) :
    (q.filed r).records.length ≤ q.records.length + 1 := by
  rw [ReportQueue.filed_length]; split <;> omega

theorem ReportQueue.filedAll_prefix (rs : List Report) (q : ReportQueue) : q.records <+: (q.filedAll rs).records := by
  induction rs generalizing q with
  | nil => exact List.prefix_rfl
  | cons r rs ih => exact (HeadTakes.filed_prefix q _).trans (ih _)

/-- A list of records is in the queue where there is room for all, each with its number and its lost-before count. -/
theorem ReportQueue.mem_filedAll {rs : List Report} {q : ReportQueue} (hroom : q.records.length + rs.length ≤ 256)
    {r : Report} (hr : r ∈ rs) : ∃ n m, { r with sequence := n, lostBefore := m } ∈ (q.filedAll rs).records := by
  induction rs generalizing q with
  | nil => cases hr
  | cons r' rs ih =>
    rw [List.length_cons] at hroom
    rcases List.mem_cons.mp hr with rfl | hr
    · exact ⟨_, _, (filedAll_prefix rs _).subset (mem_filed (by omega) _)⟩
    · have := q.filed_length_le { r' with sequence := q.sequence, lostBefore := q.lost }
      exact ih (by omega) hr

/-! ### What a discharge files -/

/-- The report of a bottle that went unfilled through a head with record `x` (R26, R40). -/
def UnfilledAt (h : HeadId) (x : Head) (r : Report) : Prop :=
  r.head = h ∧ r.verdict = .unfilled ∧ r.slot = x.active ∧ r.flags = FillFlags.clear ∧ r.finalVolume = 0 ∧ r.duration = 0

/-- The report of a fill that its discharge arrival cut off (R37, R40). -/
def ShortSniftAt (h : HeadId) (c : FillContext) (r : Report) : Prop :=
  r.head = h ∧ r.verdict = .shortSnift ∧ r.slot = some c.slot ∧ r.flags = c.flags ∧
    r.finalVolume = (c.delivered + 500) / 1000 ∧ r.duration = c.duration

theorem unfilledAt_reportDischarge {s : State} {h : HeadId} (hc : (s.head h).cycle = .skip)
    (hseen : (s.head h).contactSeen = true) (hroom : s.reports.records.length < 256) :
    ∃ r ∈ (s.reportDischarge h).reports.records, UnfilledAt h (s.head h) r := by
  unfold State.reportDischarge State.reportSkipped
  rw [if_neg (by rw [hc]; decide)]
  dsimp only
  rw [if_pos ⟨hc, hseen⟩, State.reportUnfilled_eq, State.fileReport_eq]
  exact ⟨_, ReportQueue.mem_filed hroom _, rfl, rfl, rfl, rfl, rfl, rfl⟩

theorem shortSniftAt_reportDischarge {s : State} {h : HeadId} {c : FillContext}
    (hc : (s.head h).cycle.holdsFill = true) (hf : (s.head h).fill = some c)
    (hroom : s.reports.records.length < 256) :
    ∃ r ∈ (s.reportDischarge h).reports.records, ShortSniftAt h c r := by
  unfold State.reportDischarge
  rw [if_pos hc, State.reportFill_eq hf]
  exact ⟨_, ReportQueue.mem_filed hroom _, rfl, rfl, rfl, rfl, rfl, rfl⟩

theorem reports_dischargeHead {s : State} {h : HeadId} (hd : (s.head h).cycle.discharges = true) :
    (s.dischargeHead h).reports = (s.reportDischarge h).reports := by
  unfold State.dischargeHead
  rw [if_pos hd, State.goIdle_reports]

theorem discharges_of_holdsFill {c : CycleState} (hc : c.holdsFill = true) : c.discharges = true := by
  cases c <;> cases hc <;> rfl

/-! ### How many records an arrival files -/

theorem reports_beginPass (s : State) (h : HeadId) : (s.beginPass h).reports = s.reports := by
  have pressurized : (s.enterPressurize h).reports = s.reports := by
    have adopted : (s.adopt h).reports = s.reports := by rw [(s.adopt_spec h).1]
    unfold State.enterPressurize
    dsimp only
    split
    · rfl
    · split <;> exact adopted
  unfold State.beginPass
  dsimp only
  split
  · rfl
  · split
    · exact pressurized
    · split <;> rfl

theorem reports_infeed (s : State) (h : HeadId) : (s.infeed h).reports = s.reports := by
  unfold State.infeed
  cases (s.head h).cycle <;> simp [reports_beginPass]

theorem reports_latestClose (s : State) (h : HeadId) : (s.latestClose h).reports = s.reports := by
  unfold State.latestClose State.enterClosing
  split
  · split <;> rfl
  · rfl

theorem records_reportDischarge_le (s : State) (h : HeadId) :
    (s.reportDischarge h).reports.records.length ≤ s.reports.records.length + 1 := by
  unfold State.reportDischarge
  split
  · cases hf : (s.head h).fill with
    | none =>
      have e : s.reportFill h .shortSnift = s := by unfold State.reportFill; rw [hf]
      rw [e]; omega
    | some c => rw [State.reportFill_eq hf]; exact ReportQueue.filed_length_le _ _
  · unfold State.reportSkipped
    dsimp only
    split
    · rw [State.reportUnfilled_eq, State.fileReport_eq]; exact ReportQueue.filed_length_le _ _
    · omega

/-- Only a discharge files, and at most one record. -/
theorem records_bring_le (s : State) (a : Arrival) : (s.bring a).reports.records.length ≤
    s.reports.records.length + one (decide (a.boundary = .discharge)) := by
  unfold State.bring
  cases a.boundary with
  | infeed => dsimp only; rw [reports_infeed]; omega
  | latestClose => dsimp only; rw [reports_latestClose]; omega
  | discharge =>
    dsimp only
    by_cases hd : (s.head a.head).cycle.discharges = true
    · rw [reports_dischargeHead hd]; exact records_reportDischarge_le s _
    · unfold State.dischargeHead; rw [if_neg hd]; omega

theorem countP_discharge_cons (a : Arrival) (l : List Arrival) :
    (a :: l).countP (fun a => decide (a.boundary = .discharge)) =
      l.countP (fun a => decide (a.boundary = .discharge)) + one (decide (a.boundary = .discharge)) := by
  rw [List.countP_cons]; rfl

theorem records_foldl_bring_le (l : List Arrival) (s : State) : (l.foldl State.bring s).reports.records.length ≤
    s.reports.records.length + l.countP (fun a => decide (a.boundary = .discharge)) := by
  induction l generalizing s with
  | nil => simp
  | cons a l ih =>
    have first := records_bring_le s a
    have rest := ih (s.bring a)
    rw [List.foldl_cons, countP_discharge_cons]
    omega

/-! ### The reports after all arrivals -/

/-- What the discharge of a head with record `x` files is in the queue after a list of arrivals that brings the
discharge, and no arrival before it that changes the record. -/
theorem reported_foldl_bring {h : HeadId} {x : Head} {P : Report → Prop} (hx : x.cycle.discharges = true)
    (hfiles : ∀ s : State, s.head h = x → s.reports.records.length < 256 →
      ∃ r ∈ (s.reportDischarge h).reports.records, P r)
    {l : List Arrival} {s : State} (hs : s.head h = x) (hd : .discharge ∈ boundariesAt h l)
    (hkeeps : ∀ b ∈ boundariesAt h l, b ≠ .discharge → arrived s h x b = x)
    (hroom : s.reports.records.length + l.countP (fun a => decide (a.boundary = .discharge)) ≤ 256) :
    ∃ r ∈ (l.foldl State.bring s).reports.records, P r := by
  induction l generalizing s with
  | nil => cases hd
  | cons a l ih =>
    have hc := (s.bring_takes a).toCrossed
    have hfirst := records_bring_le s a
    rw [countP_discharge_cons] at hroom
    rw [List.foldl_cons]
    by_cases hnow : a.head = h ∧ a.boundary = .discharge
    · obtain ⟨rfl, hb⟩ := hnow
      rw [hb] at hroom
      obtain ⟨r, hr, hP⟩ := hfiles s hs (by simp [one] at hroom; omega)
      refine ⟨r, (foldl_bring_crossed l _).records.subset ?_, hP⟩
      unfold State.bring
      rw [hb]
      dsimp only
      rwa [reports_dischargeHead (by rw [hs]; exact hx)]
    · have hlist : boundariesAt h (a :: l) = (if a.head = h then [a.boundary] else []) ++ boundariesAt h l := by
        unfold boundariesAt; by_cases e : a.head = h <;> simp [e]
      rw [hlist] at hd hkeeps
      refine ih (s := s.bring a) ?_ ?_ (fun b hb hne => ?_) (by omega)
      · rw [State.head_bring, hs]
        split
        · next e => exact hkeeps _ (by simp [e]) fun hb => hnow ⟨e, hb⟩
        · rfl
      · refine (List.mem_append.mp hd).resolve_left fun hmem => ?_
        split at hmem
        · next e => exact hnow ⟨e, (List.mem_singleton.mp hmem).symm⟩
        · cases hmem
      · rw [arrived_congr hc]
        exact hkeeps b (List.mem_append_right _ hb) hne

/-! ### Records that arrivals keep -/

theorem arrived_skip {x : Head} (hx : x.cycle = .skip) (s : State) (h : HeadId) {b : Boundary} (hb : b ≠ .discharge) :
    arrived s h x b = x := by
  cases b with
  | infeed => simp [arrived, hx]
  | latestClose => simp [arrived, hx, CycleState.isFillStage]
  | discharge => exact absurd rfl hb

theorem arrived_infeed_holdsFill {x : Head} (hx : x.cycle.holdsFill = true) (s : State) (h : HeadId) :
    arrived s h x .infeed = x := by
  unfold arrived
  dsimp only
  rw [if_neg]
  rintro (e | e) <;> rw [e] at hx <;> cases hx

end Sys2Proof.Machine
end

section
/-! SUPPORT. The crossing of a forward step at one head: with its arrivals all taken, and where it ends DRAINING. -/

namespace Sys2Proof.Machine

/-! ### Which crossings end DRAINING -/

/-- The state after a crossing whose arrivals are all taken. -/
def State.crossedOver (s : State) : State := s.arrivals.foldl State.bring s.stepped

theorem mem_boundariesAt_arrivals {s : State} {h : HeadId} {b : Boundary} :
    b ∈ boundariesAt h s.arrivals ↔ raisesAt s.tracker.geometry s.tracker.count b h = true :=
  mem_boundariesAt_crossing

theorem boundariesAt_subset {l₁ l : List Arrival} (hl : l₁ <+: l) (h : HeadId) : boundariesAt h l₁ ⊆ boundariesAt h l :=
  ((hl.filter _).map _).subset

/-- A crossing takes all its arrivals, or it discharges every head in flight and ends DRAINING on the way (R138). -/
theorem State.stepForward_cases {s : State} (hl : s.tracker.lead = 0) (hm : s.fillingMode = true)
    (hcount : s.mode = .draining → s.flightCounted) :
    (¬crossingEndsDraining s ∧ s.stepForward = s.crossedOver) ∨
      (crossingEndsDraining s ∧ ∃ l₁, l₁ <+: s.arrivals ∧
        (∀ g, (s.head g).cycle.inFlight = true → .discharge ∈ boundariesAt g l₁) ∧
        s.stepForward = (l₁.foldl State.bring s.stepped).endDraining) := by
  rw [State.stepForward_arrivals hl hm]
  have hm' : s.stepped.fillingMode = true := hm
  rcases foldl_takeArrival_cases s.arrivals hm' with ⟨heq, hstill⟩ | ⟨l₁, hd, hl₁, hex, hzero, heq⟩
  · refine .inl ⟨fun ⟨hd, hex, hall⟩ => ?_, heq⟩
    obtain ⟨g, hg⟩ := hstill hd (hcount hd) hex
    obtain ⟨hflies, hstays⟩ := (inFlight_foldl_bring (s := s.stepped) hd _ g).mp hg
    exact hstays (mem_boundariesAt_arrivals.mpr (hall g hflies))
  · have hdischarged : ∀ g, (s.head g).cycle.inFlight = true → .discharge ∈ boundariesAt g l₁ := fun g hg => by
      have hrest := (flightCounted_zero ((foldl_bring_crossed l₁ s.stepped).flight (hcount hd))).mp hzero g
      by_contra hno
      rw [(inFlight_foldl_bring hd l₁ g).mpr ⟨hg, hno⟩] at hrest
      cases hrest
    exact .inr ⟨⟨hd, hex, fun g hg => mem_boundariesAt_arrivals.mp (boundariesAt_subset hl₁ g (hdischarged g hg))⟩,
      l₁, hl₁, hdischarged, heq⟩

/-! ### What a crossing leaves -/

/-- What a forward crossing leaves of the state: the count and the order advance, the rest is what its arrivals write. -/
def SteppedFrame (s t : State) : Prop :=
  t = { s with
    tracker := { s.tracker with count := (s.tracker.count + 1) % s.tracker.geometry.cpr }
    heads := t.heads
    outputs := t.outputs
    slots := t.slots
    pendingChangeovers := t.pendingChangeovers
    inFlight := t.inFlight
    reports := t.reports
    mode := t.mode
    alarms := { s.alarms with reportOverflow := t.alarms.reportOverflow }
    choices := if s.mode = .draining then s.choices + 1 else s.choices }

theorem Crossed.steppedFrame {s t : State} (h : Crossed s.stepped t) : SteppedFrame s t :=
  h.frame.trans (by rw [h.mode]; rfl)

theorem Crossed.steppedFrame_drained {s v t : State} (hv : Crossed s.stepped v) (ht : DrainedFrom v t) :
    SteppedFrame s t := by
  obtain ⟨-, ht⟩ := ht
  have hslots : t.slots = v.slots := by rw [ht]
  have hpending : t.pendingChangeovers = v.pendingChangeovers := by rw [ht]
  have hflight : t.inFlight = 0 := by rw [ht]
  have hmode : t.mode = .standby := by rw [ht]
  have hreports : t.reports = v.reports.filedAll (allHeads.filterMap (drainContent v)) := by rw [ht]
  have halarms : t.alarms = v.alarmsFiled (allHeads.filterMap (drainContent v)).length := by rw [ht]
  refine ht.trans ?_
  rw [hslots, hpending, hflight, hmode, hreports, halarms]
  generalize allHeads.filterMap (drainContent v) = filed
  rw [hv.frame]
  rfl

/-! ### The reports of the heads discharged -/

section Reported
variable {s : State} {h : HeadId} {l : List Arrival}

theorem countP_discharge_prefix_le (hl : l <+: s.arrivals) :
    l.countP (fun a => decide (a.boundary = .discharge)) ≤ 64 :=
  (hl.sublist.countP_le).trans (countP_discharge_le _ _ _)

theorem unfilled_reported (hl : l <+: s.arrivals) (hd : .discharge ∈ boundariesAt h l)
    (hroom : s.reports.records.length + 64 ≤ 256) (hc : (s.head h).cycle = .skip)
    (hseen : (s.head h).contactSeen = true) :
    ∃ r ∈ (l.foldl State.bring s.stepped).reports.records, UnfilledAt h (s.head h) r := by
  have hcount := countP_discharge_prefix_le hl
  have hroom' : s.stepped.reports.records.length + 64 ≤ 256 := hroom
  refine reported_foldl_bring (x := s.head h) (by rw [hc]; rfl) (fun t ht hfree => ?_) rfl hd
    (fun b _ hb => arrived_skip hc _ h hb) (by omega)
  rw [← ht] at hc hseen ⊢
  exact unfilledAt_reportDischarge hc hseen hfree

theorem shortSnift_reported (hl : l <+: s.arrivals) (hd : .discharge ∈ boundariesAt h l)
    (hlate : raisesAt s.tracker.geometry s.tracker.count .latestClose h = false)
    (hroom : s.reports.records.length + 64 ≤ 256) (hc : (s.head h).cycle.holdsFill = true) {c : FillContext}
    (hf : (s.head h).fill = some c) :
    ∃ r ∈ (l.foldl State.bring s.stepped).reports.records, ShortSniftAt h c r := by
  have hcount := countP_discharge_prefix_le hl
  have hroom' : s.stepped.reports.records.length + 64 ≤ 256 := hroom
  refine reported_foldl_bring (x := s.head h) (discharges_of_holdsFill hc) (fun t ht hfree => ?_) rfl hd
    (fun b hmem hb => ?_) (by omega)
  · rw [← ht] at hc hf
    exact shortSniftAt_reportDischarge hc hf hfree
  · cases b with
    | infeed => exact arrived_infeed_holdsFill hc _ h
    | latestClose =>
      rw [mem_boundariesAt_arrivals.mp (boundariesAt_subset hl h hmem)] at hlate
      cases hlate
    | discharge => exact absurd rfl hb

theorem foldl_arrived_fixed {x : Head} {bs : List Boundary} (hbs : ∀ b ∈ bs, arrived s h x b = x) :
    bs.foldl (arrived s h) x = x := by
  induction bs with
  | nil => rfl
  | cons b bs ih =>
    rw [List.foldl_cons, hbs b List.mem_cons_self]
    exact ih fun b' hb' => hbs b' (List.mem_cons_of_mem _ hb')

end Reported

/-! ### The crossing that ends DRAINING -/

section Ending
variable {s t : State} {l : List Arrival}

theorem DrainedFrom.headsAtRest (hm : s.mode = .draining) (ht : DrainedFrom (l.foldl State.bring s.stepped) t) :
    HeadsAtRest s t := by
  have hv := foldl_bring_crossed l s.stepped
  obtain ⟨⟨hheads, houtputs, hzero⟩, -⟩ := ht
  refine ⟨fun h => (hheads h).trans (atRest_foldl_bring (s := s.stepped) hm l h), fun h => ?_, hzero⟩
  obtain ⟨hprofile, -⟩ := hv.static h
  rw [houtputs h]
  simp only [hv.drive, hv.profiles, hprofile]
  rfl

theorem DrainedFrom.records (ht : DrainedFrom (l.foldl State.bring s.stepped) t) :
    (l.foldl State.bring s.stepped).reports.records <+: t.reports.records := by
  rw [ht.2]; exact ReportQueue.filedAll_prefix _ _

/-- A skipped bottle is reported where DRAINING ends: at its own discharge, or with the heads cleared (R26, R43). -/
theorem DrainedFrom.unfilled (ht : DrainedFrom (l.foldl State.bring s.stepped) t) (hl : l <+: s.arrivals)
    (hroom : s.reports.records.length + 128 ≤ 256) {h : HeadId} (hc : (s.head h).cycle = .skip)
    (hseen : (s.head h).contactSeen = true) : ∃ r ∈ t.reports.records, UnfilledAt h (s.head h) r := by
  by_cases hd : .discharge ∈ boundariesAt h l
  · obtain ⟨r, hr, hreport⟩ := unfilled_reported hl hd (by omega) hc hseen
    exact ⟨r, ht.records.subset hr, hreport⟩
  · have hkept : (l.foldl State.bring s.stepped).head h = s.head h := by
      rw [head_foldl_bring]
      exact foldl_arrived_fixed fun b hb => arrived_skip hc _ h fun e => hd (e ▸ hb)
    have hfiled : (⟨0, h, (s.head h).active, .unfilled, FillFlags.clear, 0, 0, 0, 0, 0⟩ : Report) ∈
        allHeads.filterMap (drainContent (l.foldl State.bring s.stepped)) := by
      refine List.mem_filterMap.mpr ⟨h, mem_allHeads h, ?_⟩
      unfold drainContent
      rw [hkept, if_pos ⟨hc, hseen⟩]
    have hcount := countP_discharge_prefix_le hl
    have hrecords : (l.foldl State.bring s.stepped).reports.records.length ≤ s.reports.records.length +
      l.countP (fun a => decide (a.boundary = .discharge)) := records_foldl_bring_le l s.stepped
    have hheads : (allHeads.filterMap (drainContent (l.foldl State.bring s.stepped))).length ≤ 64 :=
      List.length_filterMap_le _ _
    obtain ⟨n, m, hmem⟩ := ReportQueue.mem_filedAll (q := (l.foldl State.bring s.stepped).reports) (by omega) hfiled
    rw [ht.2]
    exact ⟨_, hmem, rfl, rfl, rfl, rfl, rfl, rfl⟩

end Ending

/-! ### A head's record where all arrivals are taken -/

theorem arrived_stepped (s : State) (h : HeadId) (x : Head) (b : Boundary) :
    arrived s.stepped h x b = arrived s h x b := by
  cases b <;> rfl

theorem head_crossedOver (s : State) (h : HeadId) :
    s.crossedOver.head h = (boundariesAt h s.arrivals).foldl (arrived s h) (s.head h) := by
  have same : arrived s.stepped h = arrived s h := funext fun x => funext fun b => arrived_stepped s h x b
  unfold State.crossedOver
  rw [head_foldl_bring, same]
  rfl

theorem CycleState.discharges_iff (c : CycleState) :
    c.discharges = true ↔ c ≠ .idle ∧ c ≠ .cleanOpen ∧ c ≠ .cleanPause := by
  simp [CycleState.discharges, and_assoc]

/-- The record of a head after the discharge of a crossing, if it has one. -/
def dischargedBy (s : State) (h : HeadId) : Head :=
  if raisesAt s.tracker.geometry s.tracker.count .discharge h = true ∧
      ((s.head h).cycle ≠ .idle ∧ (s.head h).cycle ≠ .cleanOpen ∧ (s.head h).cycle ≠ .cleanPause) then
    (s.head h).atRest
  else s.head h

theorem dischargedBy_raised {s : State} {h : HeadId}
    (hd : raisesAt s.tracker.geometry s.tracker.count .discharge h = true) :
    dischargedBy s h = arrived s h (s.head h) .discharge := by
  unfold dischargedBy arrived
  simp only [hd, true_and, CycleState.discharges_iff]

theorem dischargedBy_not_raised {s : State} {h : HeadId}
    (hd : raisesAt s.tracker.geometry s.tracker.count .discharge h = false) : dischargedBy s h = s.head h := by
  unfold dischargedBy; rw [if_neg]; simp [hd]

/-- The record of a head in DONE is cleared before its next pass (R38). -/
def betweenPasses (x : Head) : Head := if x.cycle = .done then x.atRest else x

theorem arrived_infeed_begins {x : Head} (hx : x.cycle = .idle ∨ x.cycle = .done) (s : State) (h : HeadId) :
    arrived s h x .infeed = passBegun s h (betweenPasses x) := by
  unfold arrived; dsimp only; rw [if_pos hx]; rfl

/-- What of a head's record decides how its pass begins, a discharge and the rest of DONE keep. -/
theorem betweenPasses_dischargedBy (s : State) (h : HeadId) :
    (betweenPasses (dischargedBy s h)).enable = (s.head h).enable ∧
      (betweenPasses (dischargedBy s h)).active = (s.head h).active ∧
      (betweenPasses (dischargedBy s h)).pendingSlot = (s.head h).pendingSlot := by
  have hd : dischargedBy s h = s.head h ∨ dischargedBy s h = (s.head h).atRest := by
    unfold dischargedBy; split <;> simp
  unfold betweenPasses
  rcases hd with hd | hd <;> rw [hd] <;> split <;> exact ⟨rfl, rfl, rfl⟩

theorem skips_iff {s : State} {x : Head} : skips s x = true ↔ s.mode = .draining ∨ x.enable ≠ .enabled ∨
    s.productReady = false ∨ (x.active = none ∧ x.pendingSlot = none) := by
  unfold skips
  simp only [Bool.or_eq_true, Bool.and_eq_true, decide_eq_true_eq, Bool.not_eq_true', Option.isNone_iff_eq_none]
  tauto

theorem passBegun_skipped {s : State} {x : Head} (hx : skips s x = true) (h : HeadId) :
    passBegun s h x = { x with cycle := .skip, contactSeen := s.contact h, timer := none } := if_pos hx

theorem passBegun_waits {s : State} {h : HeadId} {x : Head} {k : SlotId} (hx : ¬skips s x = true)
    (hk : x.windowSlot = some k) (hc : s.contact h = false) : passBegun s h x = { x with
      cycle := .waitBottle, timer := some ⟨.contactWindow, (s.recipe k).contactWindow⟩ } := by
  unfold passBegun
  rw [if_neg hx, hk, hc]; rfl

theorem passBegun_fills {s : State} {h : HeadId} {x : Head} {k : SlotId} (hm : s.fillingMode = true)
    (hx : ¬skips s x = true) (hk : x.windowSlot = some k) (hc : s.contact h = true) : passBegun s h x = { x with
      active := some k
      pendingSlot := none
      cycle := if (s.recipe k).pressurizeDwell = 0 then .fillSoft else .pressurize
      timer := if (s.recipe k).pressurizeDwell = 0 then none
        else some ⟨.pressurizeDwell, (s.recipe k).pressurizeDwell⟩
      fill := some (latchedContext s h k ((s.recipe k).target * 1000) x.pendingSlot.isSome) } := by
  have hcal : s.mode ≠ .calibration := by rcases s.fillingMode_iff.mp hm with e | e <;> rw [e] <;> decide
  have htarget : s.fillTarget k = (s.recipe k).target * 1000 := if_neg hcal
  unfold passBegun
  rw [if_neg hx, hk, hc, ← htarget]; rfl

/-! ### The arrivals of one head -/

section Raised
variable {s : State} {h : HeadId}

theorem crossedOver_untouched (hr : ∀ b, raisesAt s.tracker.geometry s.tracker.count b h = false) :
    s.crossedOver.head h = s.head h ∧ s.crossedOver.output h = s.output h := by
  have hnone : boundariesAt h s.arrivals = [] := boundariesAt_crossing_nil hr
  refine ⟨by rw [head_crossedOver, hnone]; rfl, ?_⟩
  refine output_foldl_bring_of_none (fun a ha e => ?_) s.stepped
  have : a.boundary ∈ boundariesAt h s.arrivals := by
    unfold boundariesAt
    exact List.mem_map.mpr ⟨a, List.mem_filter.mpr ⟨ha, by simp [e]⟩, rfl⟩
  rw [hnone] at this
  cases this

theorem boundariesAt_arrivals_single {b : Boundary}
    (hr : ∀ b', raisesAt s.tracker.geometry s.tracker.count b' h = decide (b' = b)) :
    boundariesAt h s.arrivals = [b] :=
  boundariesAt_crossing_single hr

theorem head_crossedOver_single {b : Boundary}
    (hr : ∀ b', raisesAt s.tracker.geometry s.tracker.count b' h = decide (b' = b)) :
    s.crossedOver.head h = arrived s h (s.head h) b := by
  rw [head_crossedOver, boundariesAt_arrivals_single hr]; rfl

/-- An infeed of the crossing finds the head as its discharge leaves it, if both come (R8). -/
theorem head_crossedOver_infeed (hi : raisesAt s.tracker.geometry s.tracker.count .infeed h = true)
    (hl : raisesAt s.tracker.geometry s.tracker.count .latestClose h = false)
    (hd : raisesAt s.tracker.geometry s.tracker.count .discharge h = false ∨
      geometryAcceptable s.tracker.geometry = true) :
    s.crossedOver.head h = arrived s h (dischargedBy s h) .infeed := by
  cases hraised : raisesAt s.tracker.geometry s.tracker.count .discharge h with
  | false =>
    rw [dischargedBy_not_raised hraised]
    exact head_crossedOver_single fun b => by cases b <;> simp [hi, hl, hraised]
  | true =>
    have hpair : boundariesAt h s.arrivals = [.discharge, .infeed] :=
      boundariesAt_crossing_pair (hd.resolve_left (by simp [hraised])) fun b => by cases b <;> simp [hi, hl, hraised]
    rw [head_crossedOver, hpair, dischargedBy_raised hraised]; rfl

/-- A latest-close arrival at a fill stage closes it late, its outputs off (R30, R33, R107). -/
theorem crossedOver_latestClose
    (hr : ∀ b, raisesAt s.tracker.geometry s.tracker.count b h = decide (b = .latestClose))
    (hc : (s.head h).cycle.isFillStage = true) {c : FillContext} (hf : (s.head h).fill = some c) :
    s.crossedOver.head h = { s.head h with
      cycle := .closing
      timer := some ⟨.settle, (s.recipe c.slot).settleTime⟩
      fill := some { c with
        duration := min 65535 (s.clock - c.startTime).toNat
        flags := { c.flags with late := true } } } ∧
      (s.crossedOver.output h).opened = Outputs.allOff := by
  constructor
  · rw [head_crossedOver_single hr, Nat.min_comm]
    unfold arrived closedLate
    dsimp only
    rw [if_pos hc, hf]; rfl
  · exact output_foldl_bring_closed (s := s.stepped) (boundariesAt_arrivals_single hr)
      (.inl ⟨rfl, hc, Option.isSome_iff_exists.mpr ⟨c, hf⟩⟩)

end Raised

end Sys2Proof.Machine
end

section
/-! PROPERTY. The forward crossing in PRODUCTION and DRAINING (R8, R37, R138). -/

namespace Sys2Proof.Machine

/-- The clause of an infeed at a head whose record is `dischargedBy s h` when it comes (R24 to R27, R38). -/
theorem crossedOver_begins {s : State} {h : HeadId} (hm : s.fillingMode = true)
    (hi : raisesAt s.tracker.geometry s.tracker.count .infeed h = true)
    (hl : raisesAt s.tracker.geometry s.tracker.count .latestClose h = false)
    (hd : raisesAt s.tracker.geometry s.tracker.count .discharge h = false ∨
      geometryAcceptable s.tracker.geometry = true)
    (hbegins : (dischargedBy s h).cycle = .idle ∨ (dischargedBy s h).cycle = .done) :
    let x := s.head h
    let y := betweenPasses (dischargedBy s h)
    let skipped := s.mode = .draining ∨ x.enable ≠ .enabled ∨ s.productReady = false ∨
      (x.active = none ∧ x.pendingSlot = none)
    (skipped → s.crossedOver.head h = { y with cycle := .skip, contactSeen := s.contact h, timer := none }) ∧
      (¬skipped → ∀ k, (x.pendingSlot = some k ∨ (x.pendingSlot = none ∧ x.active = some k)) →
        (s.contact h = false → s.crossedOver.head h = { y with
            cycle := .waitBottle
            timer := some ⟨.contactWindow, (s.recipe k).contactWindow⟩ }) ∧
          (s.contact h = true → s.crossedOver.head h = { y with
            active := some k
            pendingSlot := none
            cycle := if (s.recipe k).pressurizeDwell = 0 then .fillSoft else .pressurize
            timer := if (s.recipe k).pressurizeDwell = 0 then none
              else some ⟨.pressurizeDwell, (s.recipe k).pressurizeDwell⟩
            fill := some (latchedContext s h k ((s.recipe k).target * 1000) x.pendingSlot.isSome) })) := by
  intro x y skipped
  obtain ⟨henable, hactive, hpending⟩ := betweenPasses_dischargedBy s h
  have hskips : skips s y = true ↔ skipped := by rw [skips_iff, henable, hactive, hpending]
  rw [head_crossedOver_infeed hi hl hd, arrived_infeed_begins hbegins]
  refine ⟨fun hs => passBegun_skipped (hskips.mpr hs) h, fun hs k hk => ?_⟩
  have hwindow : y.windowSlot = some k := by rw [windowSlot_eq_some, hactive, hpending]; exact hk
  refine ⟨fun hc => passBegun_waits (hskips.not.mpr hs) hwindow hc, fun hc => ?_⟩
  rw [passBegun_fills hm (hskips.not.mpr hs) hwindow hc, hpending]

/-- Settles O14: a crossing ends DRAINING, or each head takes the arrivals it raises and no other head's. -/
theorem crossingBringsEachHeadItsArrivals : Obligations.CrossingBringsEachHeadItsArrivals := by
  intro s h hs hm hfaulted hlead hcount
  refine ⟨s.stepForward, by rw [exec_encoderForwardStep hs, if_neg hfaulted], ?_⟩
  intro x at_ moves d y begins skipped ends unfilled shortSnift
  rcases State.stepForward_cases hlead hm hcount with ⟨hstays, heq⟩ | ⟨hends, l, hl, hdischarged, heq⟩
  · have hv : Crossed s.stepped s.crossedOver := foldl_bring_crossed _ _
    rw [heq]
    refine ⟨hv.steppedFrame, hv.recipes, fun hends => absurd hends hstays, fun _ => ⟨hv.mode, ?_, ?_, ?_, ?_, ?_⟩⟩
    · intro hi hlate hd
      exact crossedOver_untouched fun b => by cases b <;> assumption
    · intro hi hlate hd
      have hbegins := crossedOver_begins hm hi hlate hd
      refine ⟨fun hno => ?_, fun hb => (hbegins hb).1, fun hb => (hbegins hb).2⟩
      rw [head_crossedOver_infeed hi hlate hd]
      exact if_neg hno
    · intro hi hlate hd
      have hr : ∀ b, at_ b = decide (b = .latestClose) := fun b => by cases b <;> assumption
      refine ⟨fun hc => ?_, fun hc c hf => crossedOver_latestClose hr hc hf⟩
      rw [head_crossedOver_single hr]
      exact if_neg (by rw [hc]; decide)
    · intro hi hlate hd
      have hr : ∀ b, at_ b = decide (b = .discharge) := fun b => by cases b <;> assumption
      refine ⟨?_, fun hmoves => ?_⟩
      · rw [head_crossedOver_single hr]
        exact (dischargedBy_raised hd).symm
      · exact output_foldl_bring_closed (s := s.stepped) (boundariesAt_arrivals_single hr)
          (.inr ⟨rfl, (CycleState.discharges_iff _).mpr hmoves⟩)
    · intro hlate hd _ hroom
      have hmem : .discharge ∈ boundariesAt h s.arrivals := mem_boundariesAt_arrivals.mpr hd
      exact ⟨unfilled_reported List.prefix_rfl hmem hroom,
        fun hc c hf => shortSnift_reported List.prefix_rfl hmem hlate hroom hc hf⟩
  · have hv : Crossed s.stepped (l.foldl State.bring s.stepped) := foldl_bring_crossed _ _
    have hdrained := State.endDraining_spec (l.foldl State.bring s.stepped)
    rw [heq]
    generalize (l.foldl State.bring s.stepped).endDraining = t at hdrained
    refine ⟨hv.steppedFrame_drained hdrained, fun k => ?_, fun _ => ⟨by rw [hdrained.2], hdrained.headsAtRest hends.1,
      fun hroom => ⟨hdrained.unfilled hl hroom, fun hc hlate c hf => ?_⟩⟩, fun hno => absurd hends hno⟩
    · have hslots : t.slots = (l.foldl State.bring s.stepped).slots := by rw [hdrained.2]
      show (t.slots[k]).recipe = _
      rw [hslots]
      exact hv.recipes k
    · have hflies : (s.head h).cycle.inFlight = true := by
        cases hcycle : (s.head h).cycle <;> rw [hcycle] at hc <;> cases hc <;> rfl
      obtain ⟨r, hr, hreport⟩ := shortSnift_reported hl (hdischarged h hflies) hlate (by omega) hc hf
      exact ⟨r, hdrained.records.subset hr, hreport⟩

end Sys2Proof.Machine
end

section
/-! SUPPORT. What a command can do, said once for every law: the effect of each command beside what LI and the pins
hold, and the state that each accepted request leaves. -/

namespace Sys2Proof.Machine

/-! ### The effect of a command -/

/-- The meter factor that SET HEAD carries fits its wire field (R178). -/
def Instr.factorFits : Instr → Bool
  | .setHead _ _ factor => decide (factor ≤ 65535)
  | _ => true

/-- What a command does to a state, LI and the pins set aside; `fits` is what is known of the requests' factors. -/
inductive Effect (fits : Prop) (s : State) : State → Prop
  | none : Effect fits s s
  | request (i : Instr) (hi : fits → Instr.factorFits i = true) : Effect fits s (answerRequest i s).1
  | halt : Effect fits s s.haltAll
  | forward (hf : s.tracker.status ≠ .faulted) : Effect fits s s.stepForward
  | backward (hf : s.tracker.status ≠ .faulted) : Effect fits s s.stepBackward
  | index (hf : s.tracker.status ≠ .faulted) : Effect fits s s.markIndex
  | quadrature (hf : s.tracker.status ≠ .faulted) : Effect fits s s.faultTracker
  | contactCame (h : HeadId) : Effect fits s (s.contactCame h)
  | contactWent (h : HeadId) : Effect fits s (s.contactWent h)
  | contactWindow (h : HeadId) (ht : (s.head h).times .waitBottle .contactWindow = true) :
    Effect fits s (s.leaveToIdle h)
  | pressurizeDwell (h : HeadId) (ht : (s.head h).times .pressurize .pressurizeDwell = true) :
    Effect fits s (s.enter h .fillSoft none)
  | settle (h : HeadId) (ht : (s.head h).times .closing .settle = true) : Effect fits s (s.finishSettle h)
  | sniftDwell (h : HeadId) (ht : (s.head h).times .snift .sniftDwell = true) : Effect fits s (s.finishSnift h)
  | ventDwell (h : HeadId) (ht : (s.head h).times .aborted .vent = true) : Effect fits s (s.endVent h)
  | tick : Effect fits s { s with clock := s.clock + 1 }
  | pulse (lanes : Vector Lane 64) : Effect fits s { s with lanes := lanes }
  | scan (b : BankId) : Effect fits s (s.scanBank b)
  | openPhase (plan : CleaningPlan) (hp : s.cleaning.phase = .openPhase) : Effect fits s (s.endOpenPhase plan)
  | pausePhase (plan : CleaningPlan) (hp : s.cleaning.phase = .pausePhase) : Effect fits s (s.endCycle plan)
  | powerLoss : Effect fits s s.losePower
  | powerReturn : Effect fits s s.regainPower
  | ready (high : Bool) : Effect fits s { s with productReady := high }
  | powerOn (pins : Pins) : Effect fits s (s.powerOnWith pins)
  | lineHeld : Effect fits s s.dropTerminals
  | restart : Effect fits s s.restart

/-- Nothing differs but what LI holds and the levels at the pins. -/
def Carried (s t : State) : Prop := t = { s with link := t.link, pins := t.pins }

theorem Carried.toHunt (s : State) : Carried s s.toHunt := rfl

theorem Carried.withLink (s : State) (l : Link) : Carried s { s with link := l } := rfl

theorem Carried.withPins (s : State) (p : Pins) : Carried s { s with pins := p } := rfl

/-- From `s` to `t` by one effect, and what LI and the pins do before and after it. -/
def Reaches (fits : Prop) (s t : State) : Prop := ∃ u v, Carried s u ∧ Effect fits u v ∧ Carried v t

namespace Reaches
variable {fits : Prop} {s t u : State}

theorem of_effect (he : Effect fits s t) : Reaches fits s t := ⟨s, t, rfl, he, rfl⟩

theorem refl : Reaches fits s s := of_effect .none

theorem of_carried (hc : Carried s t) : Reaches fits s t := ⟨t, t, hc, .none, rfl⟩

theorem before (hc : Carried s t) (hr : Reaches fits t u) : Reaches fits s u := by
  obtain ⟨a, b, ha, he, hb⟩ := hr
  refine ⟨a, b, ?_, he, hb⟩
  unfold Carried at *
  rw [ha, hc]

theorem after (hr : Reaches fits s t) (hc : Carried t u) : Reaches fits s u := by
  obtain ⟨a, b, ha, he, hb⟩ := hr
  refine ⟨a, b, ha, he, ?_⟩
  unfold Carried at *
  rw [hc, hb]

theorem event {body : State → State} (hb : Reaches fits s (body s)) : Reaches fits s (event body s) :=
  event_cases (P := Reaches fits s) body refl hb

/-- The encoder events act outside FAULTED. -/
theorem moved {f : State → State} (hf : s.tracker.status ≠ .faulted → Effect fits s (f s)) :
    Reaches fits s (Machine.event (fun u => if u.tracker.status = .faulted then u else f u) s) := by
  refine event ?_
  split
  · exact refl
  · next h => exact of_effect (hf h)

/-- A timer expiry acts where its timer runs. -/
theorem expired {cycle : CycleState} {kind : TimerKind} {h : HeadId} {act : State → State}
    (ha : (s.head h).times cycle kind = true → Effect fits s (act s)) :
    Reaches fits s (onExpiry cycle kind h act s) := by
  unfold onExpiry
  refine event ?_
  split
  · next ht => exact of_effect (ha ht)
  · exact refl

end Reaches

theorem decodeRequest_factorFits {code : Nat} {p : List Byte} {i : Instr} (h : decodeRequest code p = .ok i) :
    Instr.factorFits i = true := by
  have read : ∀ {n : Nat} {j : Instr}, Instr.factorFits j = true → withLength n p j = .ok i →
      Instr.factorFits i = true := by
    intro n j hj hl
    unfold withLength at hl
    split at hl
    · cases hl; exact hj
    · cases hl
  have field : fieldAt p 2 2 ≤ 65535 := by
    have : ∀ l : List Byte, leNat l < 256 ^ l.length := by
      intro l
      induction l with
      | nil => simp [leNat]
      | cons b l ih => have := b.isLt; rw [leNat, List.length_cons, Nat.pow_succ]; omega
    have := this ((p.drop 2).take 2)
    have hlen : ((p.drop 2).take 2).length ≤ 2 := List.length_take_le _ _
    have := Nat.pow_le_pow_right (n := 256) (by omega) hlen
    unfold fieldAt; omega
  unfold decodeRequest at h
  split at h
  case h_6 => exact read (by simpa [Instr.factorFits] using field) h
  case h_32 => cases h
  all_goals exact read rfl h

/-- A request row's factor reaches its block as it is, and so does one that has come byte by byte (R175). -/
theorem serveRequest_effect (fits : Prop) (code : Nat) (p : List Byte) (s : State) :
    Effect fits s (serveRequest code p s).1 := by
  unfold serveRequest
  split
  · next i hd => exact .request i fun _ => decodeRequest_factorFits hd
  · exact .none
  · exact .none

theorem takeFrame_reaches (fits : Prop) (frame : List Byte) (s : State) : Reaches fits s (takeFrame frame s) := by
  have hunted := Carried.toHunt s
  unfold takeFrame
  dsimp only
  split
  · exact .of_carried hunted
  · split
    · split
      · exact .before hunted (.of_effect .halt)
      · exact .of_carried hunted
    · split
      · exact .after (.before hunted (.of_effect (serveRequest_effect fits _ _ _))) (.withLink _ _)
      · exact .of_carried hunted

theorem receiveByte_reaches (fits : Prop) (b : Byte) (s : State) : Reaches fits s (receiveByte b s) := by
  unfold receiveByte
  split
  · split
    · exact .of_carried rfl
    · exact .refl
  · dsimp only
    split
    · exact .of_carried rfl
    · exact .of_carried rfl
    · exact takeFrame_reaches fits _ s
  · exact .refl

theorem transact_reaches {fits : Prop} {i : Instr} (hi : fits → Instr.factorFits i = true) (code : Nat) (s : State) :
    Reaches fits s (transact code (answerRequest i) s) := by
  unfold transact
  split
  · exact .refl
  · split
    · exact .refl
    · split
      · exact .of_carried rfl
      · exact .after (.of_effect (.request i hi)) (.withLink _ _)

/-- What a command can do: one effect beside LI and the pins. -/
theorem exec_reaches {c : Instr} {s t : State} (he : exec c s = .next t) :
    Reaches (Instr.factorFits c = true) s t := by
  by_cases hr : isRequest c = true
  · obtain ⟨code, e⟩ := exec_of_isRequest hr s
    cases e.symm.trans he
    exact transact_reaches id code s
  · cases c with
    | halt broadcast =>
      cases broadcast with
      | false => exact absurd rfl hr
      | true =>
        cases he
        rw [if_pos rfl]
        refine .event ?_
        split
        · exact .refl
        · exact .after (.of_effect .halt) (.toHunt _)
    | byteArrival b => cases he; exact .event (receiveByte_reaches _ b s)
    | gapTimerExpiry =>
      cases he
      refine .event ?_
      split
      · exact .of_carried rfl
      · exact .refl
    | replySent =>
      cases he
      refine .event ?_
      split
      · split
        · exact .of_effect .restart
        · exact .of_carried rfl
      · exact .refl
    | encoderForwardStep => cases he; exact .moved .forward
    | encoderBackwardStep => cases he; exact .moved .backward
    | indexMarkStep => cases (execIndexMarkStep_eq s).symm.trans he; exact .moved .index
    | quadratureError => cases he; exact .moved .quadrature
    | contactArrival h =>
      cases he
      split
      · exact .refl
      · exact .before (t := s.putContact h true) rfl (.event (.of_effect (.contactCame h)))
    | contactLoss h =>
      cases he
      split
      · exact .before (t := s.putContact h false) rfl (.event (.of_effect (.contactWent h)))
      · exact .refl
    | contactWindowExpiry h => cases he; exact .expired (.contactWindow h)
    | pressurizeDwellExpiry h => cases he; exact .expired (.pressurizeDwell h)
    | settleExpiry h => cases he; exact .expired (.settle h)
    | sniftDwellExpiry h => cases he; exact .expired (.sniftDwell h)
    | ventDwellExpiry h => cases he; exact .expired (.ventDwell h)
    | millisecondTick => cases he; exact .event (.of_effect .tick)
    | flowmeterPulse h => cases he; exact .event (.of_effect (.pulse _))
    | bankScan b => cases he; exact .event (.of_effect (.scan b))
    | openPhaseExpiry =>
      cases he
      refine .event ?_
      split
      · split
        · next plan _ hp => exact .of_effect (.openPhase plan hp)
        · exact .refl
      · exact .refl
    | pausePhaseExpiry =>
      cases he
      refine .event ?_
      split
      · split
        · next plan _ hp => exact .of_effect (.pausePhase plan hp)
        · exact .refl
      · exact .refl
    | valvePowerLoss =>
      cases he
      split
      · exact .before (t := s.putSense false) rfl (.event (.of_effect .powerLoss))
      · exact .refl
    | valvePowerReturn =>
      cases he
      split
      · exact .refl
      · exact .before (t := s.putSense true) rfl (.event (.of_effect .powerReturn))
    | productReadyChange high =>
      cases he
      exact .before (t := { s with pins := { s.pins with productReady := high } }) rfl
        (.event (.of_effect (.ready high)))
    | powerOn pins => cases he; exact .of_effect (.powerOn _)
    | resetLineAssert => cases he; exact .after (.of_effect .lineHeld) (.withPins _ _)
    | resetLineRelease switches =>
      cases he
      split
      · exact .of_effect (.powerOn _)
      · exact .refl
    | _ => exact absurd rfl hr

/-- A law that LI and the pins do not enter into survives a command if it survives the command's effect. -/
theorem exec_keeps_of_effect {P : State → Prop} (hcarried : ∀ {u v}, Carried u v → P u → P v) {c : Instr} {s t : State}
    (heffect : ∀ {u v}, Effect (Instr.factorFits c = true) u v → P u → P v) (hs : P s) (he : exec c s = .next t) :
    P t := by
  obtain ⟨u, v, hu, hv, ht⟩ := exec_reaches he
  exact hcarried ht (heffect hv (hcarried hu hs))

end Sys2Proof.Machine
end

section
/-! SUPPORT. What an accepted request leaves, said once for each request of R178 with what its acceptance says. -/

namespace Sys2Proof.Machine

/-- The state that a block leaves when it has answered: as it was (refused, or a read), or what the accepted request
makes of it. -/
inductive Served (s : State) : Instr → State → Prop
  | same (i : Instr) : Served s i s
  | setGeometry (g : Geometry) (hm : s.mode.configurable = true) :
    Served s (.setGeometry g) { s with tracker := trackerWith g s.tracker }
  | setValveProfile {profile : Nat} {fields : ProfileFields} (k : ProfileId) (p : ValveProfile)
    (hm : s.mode.configurable = true) : Served s (.setValveProfile profile fields)
      ({ s with profiles := s.profiles.set k p }.deriveTerminalsWhere fun x => decide (x.profile = k))
  | setHead {head profile factor : Nat} (h : HeadId) (p : ProfileId) (hm : s.mode.configurable = true)
    (hf : factor = 0 ∨ 200 ≤ factor) (hz : factor = 0 → (s.head h).enable = .disabled) :
    Served s (.setHead head profile factor)
      ((s.updHead h fun x => { x with profile := p, factor := factor }).deriveTerminals h)
  | enableHeads (mask : HeadMask) (hf : ∀ h, inMask mask h = true → (s.head h).factor ≠ 0) :
    Served s (.enableHeads mask) (s.setEnable mask fun x => { x with enable := .enabled, faults := 0 })
  | disableHeads (mask : HeadMask) :
    Served s (.disableHeads mask) (s.setEnable mask fun x => { x with enable := .disabled })
  | loadRecipe {slot : Nat} (k : SlotId) (r : Recipe) (hb : (s.slot k).bindings = 0) (hr : recipeInRange r = true) :
    Served s (.loadRecipe slot r) ((s.putSlot k { s.slot k with recipe := some (clampRecipe r) }).clearColumn k)
  | unloadRecipe {slot : Nat} (k : SlotId) (hb : (s.slot k).bindings = 0) :
    Served s (.unloadRecipe slot) ((s.putSlot k { s.slot k with recipe := none }).clearColumn k)
  | bindRecipe {slot : Nat} (mask : HeadMask) (target : Option SlotId)
    (hk : ∀ k, target = some k → (s.slot k).recipe.isSome = true) :
    Served s (.bindRecipe mask slot) (bindMask mask target s)
  | reserve {head slot : Nat} (h : HeadId) (k : SlotId) (hk : (s.slot k).recipe.isSome = true) :
    Served s (.readCorrectionForEdit head slot) { s with reservation := some (h, k) }
  | writeCorrection {head slot : Nat} {value : Int} (h : HeadId) (k : SlotId) (hr : s.reservation = some (h, k)) :
    Served s (.writeCorrection head slot value) { s.putCorrection h k (value * 1000) with reservation := none }
  | dropReservation {head slot : Nat} {value : Int} :
    Served s (.writeCorrection head slot value) { s with reservation := none }
  | restoreCorrections {slot : Nat} (k : SlotId) (values : Vector Int 64) (hm : s.mode.configurable = true)
    (hk : (s.slot k).recipe.isSome = true) : Served s (.restoreCorrections slot values)
      ((s.putColumn k (Vector.ofFn fun h : HeadId => clampCorrection (values[h] * 1000))).dropReservationOn k)
  | startProduction (hm : s.mode = .standby ∨ s.mode = .draining) (hr : startRefusal s = none) :
    Served s .startProduction { s with mode := .production, tracker := { s.tracker with lead := 0 } }
  | drain (hm : s.mode = .production) : Served s .stop (s.setMode .draining).judgeDrain
  | stopCleaning (hm : s.mode = .cleaning) : Served s .stop (s.endCleaningEarly.setMode s.afterService)
  | halt (broadcast : Bool) : Served s (.halt broadcast) s.haltAll
  | clearHalt (hm : s.mode = .halted) (hv : s.valvePower = true) (tracker : Tracker)
    (ht : tracker = if s.tracker.status = .faulted then ⟨s.tracker.geometry, 0, 0, 0, .unreferenced⟩ else s.tracker) :
    Served s .clearHalt { s with mode := .standby, tracker := tracker }
  | startCleaning (openTime pauseTime cycles : Nat) (hm : s.mode = .standby)
    (hp : planInRange openTime pauseTime cycles = true) :
    Served s (.startCleaning openTime pauseTime cycles) (State.driveTo .cleanOpen
      { s with
        cleaning :=
          { plan := some ⟨openTime, pauseTime, cycles⟩
            phase := .openPhase
            cycle := 1
            cyclesDone := 0
            driven := Vector.ofFn fun h : HeadId => decide ((s.head h).enable = .enabled)
            timer := some openTime
            counters := Vector.replicate 64 0
            noFlow := Vector.replicate 64 false
            result := .running }
        mode := .cleaning })
  | startCalibration {head : Nat} (h : HeadId) (target : Nat) (hm : s.mode = .standby)
    (ht : between 10000 3000000 target = true) (hf : (s.head h).factor ≠ 0) (ha : (s.head h).active.isSome = true) :
    Served s (.startCalibration head target)
      { s with
        cal := { s.cal with head := some h, target := some target, state := .armed }
        mode := .calibration }
  | enterActualVolume (volume : Nat) (h : HeadId) (run last : CalResult) (new : Nat) (hm : s.mode = .calibration)
    (hc : s.cal.state = .awaitActual) (hh : s.cal.head = some h) (hl : s.cal.last = some run)
    (hn : between 200 65535 new = true) : Served s (.enterActualVolume volume)
      { s.updHead h (fun x => { x with factor := new }) with
        cal := { s.cal with state := .armed, last := some last } }
  | endCalibration (hm : s.mode = .calibration) :
    Served s .endCalibration (s.endCalibration.setMode s.afterService)
  | discardReports (n : Nat) :
    Served s (.discardReports n) { s with reports := { s.reports with records := s.reports.records.drop n } }
  | setReporting (n : Nat) (hn : thresholdAllowed n = true) :
    Served s (.setReporting n) { s with reports := { s.reports with threshold := n } }
  | acknowledgeAlarms (mask : Byte) :
    Served s (.acknowledgeAlarms mask) { s with alarms := acknowledged s mask }
  | restart : Served s .restart { s with link := { s.link with restartPending := true } }

namespace Served

theorem of_eq {s t : State} (i : Instr) (h : t = s) : Served s i t := h ▸ .same i

theorem of_setGeometry (g : Geometry) (s : State) : Served s (.setGeometry g) (Machine.setGeometry g s).1 := by
  unfold Machine.setGeometry
  split
  · next hm =>
    split
    · exact .setGeometry g hm
    · exact .same _
  · exact .same _

theorem of_setValveProfile (profile : Nat) (f : ProfileFields) (s : State) :
    Served s (.setValveProfile profile f) (Machine.setValveProfile profile f s).1 := by
  unfold Machine.setValveProfile
  split
  · next hm =>
    split
    · exact .setValveProfile _ _ hm
    · exact .same _
  · exact .same _

theorem of_setHead (head profile factor : Nat) (s : State) :
    Served s (.setHead head profile factor) (Machine.setHead head profile factor s).1 := by
  unfold Machine.setHead
  split
  · next hm =>
    split
    · next h p _ _ =>
      split
      · next hf =>
        simp only [factorAllowed, Bool.and_eq_true, Bool.or_eq_true, decide_eq_true_eq, Bool.not_eq_true',
          Bool.and_eq_false_iff, decide_eq_false_iff_not, not_not] at hf
        exact .setHead h p hm hf.1 fun hz => hf.2.resolve_left (absurd hz)
      · exact .same _
    · exact .same _
  · exact .same _

theorem anyIn_eq_false {s : State} {mask : HeadMask} {p : Head → Bool} (hn : ¬ s.anyIn mask p = true) (h : HeadId)
    (hh : inMask mask h = true) : p (s.head h) = false := by
  unfold State.anyIn at hn
  simp only [List.any_eq_true, Bool.and_eq_true, not_exists, not_and, mem_allHeads, true_implies] at hn
  simpa using hn h hh

theorem of_enableHeads (mask : HeadMask) (s : State) : Served s (.enableHeads mask) (Machine.enableHeads mask s).1 := by
  unfold Machine.enableHeads
  split
  · exact .same _
  · split
    · exact .same _
    · next hf =>
      split
      · exact .same _
      · exact .enableHeads mask fun h hh => by simpa using anyIn_eq_false hf h hh

theorem of_loadRecipe (slot : Nat) (r : Recipe) (s : State) :
    Served s (.loadRecipe slot r) (Machine.loadRecipe slot r s).1 := by
  unfold Machine.loadRecipe
  split
  · exact .same _
  · split
    · exact .same _
    · next hb =>
      split
      · next hr => exact .loadRecipe _ r (by omega) hr
      · exact .same _

theorem of_unloadRecipe (slot : Nat) (s : State) : Served s (.unloadRecipe slot) (Machine.unloadRecipe slot s).1 := by
  unfold Machine.unloadRecipe
  split
  · exact .same _
  · split
    · exact .same _
    · next hb => exact .unloadRecipe _ (by omega)

theorem of_bindRecipe (mask : HeadMask) (slot : Nat) (s : State) :
    Served s (.bindRecipe mask slot) (Machine.bindRecipe mask slot s).1 := by
  unfold Machine.bindRecipe
  split
  · next k _ =>
    split
    · exact .same _
    · split
      · exact .same _
      · next hr =>
        refine .bindRecipe mask (some k) fun j hj => ?_
        cases hj
        exact Option.isSome_iff_ne_none.mpr fun e => hr (by rw [e]; rfl)
  · split
    · split
      · exact .same _
      · exact .bindRecipe mask none fun k hk => by cases hk
    · exact .same _

theorem of_readCorrectionForEdit (head slot : Nat) (s : State) :
    Served s (.readCorrectionForEdit head slot) (Machine.readCorrectionForEdit head slot s).1 := by
  unfold Machine.readCorrectionForEdit
  split
  · split
    · next hk => exact .reserve _ _ hk
    · exact .same _
  · exact .same _

theorem of_writeCorrection (head slot : Nat) (value : Int) (s : State) :
    Served s (.writeCorrection head slot value) (Machine.writeCorrection head slot value s).1 := by
  unfold Machine.writeCorrection
  split
  · next h k _ _ =>
    by_cases hr : s.reservation = some (h, k)
    · simpa only [hr, decide_true, if_true] using Served.writeCorrection h k hr
    · simpa only [hr, decide_false, Bool.false_eq_true, if_false] using Served.dropReservation
  · exact .same _

theorem of_restoreCorrections (slot : Nat) (values : Vector Int 64) (s : State) :
    Served s (.restoreCorrections slot values) (Machine.restoreCorrections slot values s).1 := by
  unfold Machine.restoreCorrections
  split
  · next hm =>
    split
    · split
      · next hk => exact .restoreCorrections _ values hm hk
      · exact .same _
    · exact .same _
  · exact .same _

theorem of_startProduction (s : State) : Served s .startProduction (Machine.startProduction s).1 := by
  unfold Machine.startProduction
  split
  · next hm =>
    split
    · exact .same _
    · next hr => exact .startProduction hm hr
  · exact .same _

theorem of_stop (s : State) : Served s .stop (stopRequest s).1 := by
  unfold Machine.stopRequest
  split
  · next hm => exact .drain hm
  · next hm => exact .stopCleaning hm
  all_goals exact .same _

theorem of_clearHalt (s : State) : Served s .clearHalt (Machine.clearHalt s).1 := by
  unfold Machine.clearHalt
  split
  · next hm =>
    split
    · next hv => exact .clearHalt hm hv _ rfl
    · exact .same _
  · exact .same _

theorem of_startCleaning (openTime pauseTime cycles : Nat) (s : State) :
    Served s (.startCleaning openTime pauseTime cycles) (Machine.startCleaning openTime pauseTime cycles s).1 := by
  unfold Machine.startCleaning
  split
  · next hm =>
    split
    · exact .same _
    · next hp =>
      split
      · exact .same _
      · dsimp only [accept]
        exact .startCleaning _ _ _ hm (by simpa using hp)
  · exact .same _

theorem of_startCalibration (head target : Nat) (s : State) :
    Served s (.startCalibration head target) (Machine.startCalibration head target s).1 := by
  unfold Machine.startCalibration
  split
  · next hm =>
    split
    · exact .same _
    · next h _ =>
      split
      · exact .same _
      · next ht =>
        split
        · exact .same _
        · next hf =>
          split
          · exact .same _
          · next ha =>
            exact .startCalibration h target hm (Bool.not_eq_false _ ▸ ht) hf
              (Option.isSome_iff_ne_none.mpr fun e => ha (by rw [e]; rfl))
  · exact .same _

theorem of_enterActualVolume (volume : Nat) (s : State) :
    Served s (.enterActualVolume volume) (Machine.enterActualVolume volume s).1 := by
  unfold Machine.enterActualVolume
  split
  · next hm =>
    split
    · exact .same _
    · split
      · next h run hh hl =>
        dsimp only
        split
        · next hn => exact .enterActualVolume volume h run _ _ hm.1 hm.2 hh hl (Bool.and_eq_true_iff.mp hn).2
        · exact .same _
      · exact .same _
  · exact .same _

theorem of_endCalibration (s : State) : Served s .endCalibration (endCalibrationRequest s).1 := by
  unfold Machine.endCalibrationRequest
  split
  · next hm => exact .endCalibration hm
  · exact .same _

theorem of_discardReports (n : Nat) (s : State) : Served s (.discardReports n) (Machine.discardReports n s).1 := by
  unfold Machine.discardReports
  split
  · exact .discardReports n
  · exact .same _

theorem of_setReporting (n : Nat) (s : State) : Served s (.setReporting n) (Machine.setReporting n s).1 := by
  unfold Machine.setReporting
  split
  · next hn => exact .setReporting n hn
  · exact .same _

theorem of_acknowledgeAlarms (mask : Byte) (s : State) :
    Served s (.acknowledgeAlarms mask) (Machine.acknowledgeAlarms mask s).1 := by
  unfold Machine.acknowledgeAlarms
  split
  · exact .same _
  · exact .acknowledgeAlarms mask

end Served

/-- What a block leaves of the state when it has answered a request (R175). -/
theorem answerRequest_served (i : Instr) (s : State) : Served s i (answerRequest i s).1 := by
  cases i with
  | setGeometry g => exact .of_setGeometry g s
  | setValveProfile profile fields => exact .of_setValveProfile profile fields s
  | setHead head profile factor => exact .of_setHead head profile factor s
  | enableHeads mask => exact .of_enableHeads mask s
  | disableHeads mask => exact .disableHeads mask
  | loadRecipe slot recipe => exact .of_loadRecipe slot recipe s
  | unloadRecipe slot => exact .of_unloadRecipe slot s
  | bindRecipe mask slot => exact .of_bindRecipe mask slot s
  | readCorrectionForEdit head slot => exact .of_readCorrectionForEdit head slot s
  | writeCorrection head slot value => exact .of_writeCorrection head slot value s
  | restoreCorrections slot values => exact .of_restoreCorrections slot values s
  | startProduction => exact .of_startProduction s
  | stop => exact .of_stop s
  | halt broadcast => exact .halt broadcast
  | clearHalt => exact .of_clearHalt s
  | startCleaning openTime pauseTime cycles => exact .of_startCleaning openTime pauseTime cycles s
  | startCalibration head target => exact .of_startCalibration head target s
  | enterActualVolume volume => exact .of_enterActualVolume volume s
  | endCalibration => exact .of_endCalibration s
  | discardReports n => exact .of_discardReports n s
  | setReporting threshold => exact .of_setReporting threshold s
  | acknowledgeAlarms mask => exact .of_acknowledgeAlarms mask s
  | restart => exact .restart
  | readValveProfile profile => exact .of_eq _ (readValveProfile_state profile s)
  | readHead head => exact .of_eq _ (readHead_state head s)
  | readRecipe slot => exact .of_eq _ (readRecipe_state slot s)
  | readCorrections slot => exact .of_eq _ (readCorrections_state slot s)
  | peekReports n => exact .of_eq _ (peekReports_state n s)
  | _ => exact .same _

end Sys2Proof.Machine
end

section
/-! SUPPORT. The events of the part as sequences of a few elementary writes, so that a law on what those write is kept
by all of them. -/

namespace Sys2Proof.Machine

/-- One elementary write of the operations on heads: a head's dynamic part, its state, its fault count, the changeover,
every head cleared, DE's work on a bank, or fields in which the heads, slots, counts and waiting commands do not
appear. -/
inductive Write : State → State → Prop
  | other {s t : State} (hheads : t.heads = s.heads) (hslots : t.slots = s.slots) (hflight : t.inFlight = s.inFlight)
    (hchangeovers : t.pendingChangeovers = s.pendingChangeovers) (hpending : t.pending = s.pending) : Write s t
  | dynamic (s : State) (h : HeadId) (f : Head → Head)
    (hf : ∀ x, f x = { x with contactSeen := (f x).contactSeen, timer := (f x).timer, fill := (f x).fill }) :
    Write s (s.updHead h f)
  | enter (s : State) (h : HeadId) (c : CycleState) (tm : Option Timer) : Write s (s.enter h c tm)
  | countFault (s : State) (h : HeadId) (v : Verdict) : Write s (s.countFault h v)
  | adopt (s : State) (h : HeadId) : Write s (s.adopt h)
  | clearHeads (s : State) : Write s s.clearHeads
  | scanLanes (s : State) (b : BankId) : Write s (s.scanLanes b)

/-- A sequence of elementary writes. -/
def Writes : State → State → Prop := Relation.ReflTransGen Write

namespace Writes
variable {s t u : State}

theorem refl (s : State) : Writes s s := Relation.ReflTransGen.refl

theorem trans (h₁ : Writes s t) (h₂ : Writes t u) : Writes s u := Relation.ReflTransGen.trans h₁ h₂

theorem of_write (h : Write s t) : Writes s t := Relation.ReflTransGen.single h

/-- A law that every elementary write keeps. -/
theorem keeps {P : State → Prop} (hP : ∀ {s t}, Write s t → P s → P t) (h : Writes s t) (hs : P s) : P t := by
  induction h with
  | refl => exact hs
  | tail _ hw ih => exact hP hw ih

/-- Fields other than the heads, slots, counts and waiting commands may be written. -/
theorem elsewhere (h : Writes s t) (hheads : u.heads = t.heads := by rfl) (hslots : u.slots = t.slots := by rfl)
    (hflight : u.inFlight = t.inFlight := by rfl)
    (hchangeovers : u.pendingChangeovers = t.pendingChangeovers := by rfl)
    (hpending : u.pending = t.pending := by rfl) : Writes s u :=
  h.trans (of_write (.other hheads hslots hflight hchangeovers hpending))

theorem foldl {α : Type} {f : State → α → State} (hf : ∀ u a, Writes u (f u a)) :
    ∀ (l : List α) (s : State), Writes s (l.foldl f s)
  | [], s => refl s
  | a :: l, s => (hf s a).trans (foldl hf l (f s a))

/-! ### The shared operations -/

theorem updHead (s : State) (h : HeadId) {f : Head → Head}
    (hf : ∀ x, f x = { x with contactSeen := (f x).contactSeen, timer := (f x).timer, fill := (f x).fill }) :
    Writes s (s.updHead h f) := of_write (.dynamic s h f hf)

theorem putOutput (s : State) (h : HeadId) (x : HeadOutputs) : Writes s (s.putOutput h x) := (refl s).elsewhere

theorem enter (s : State) (h : HeadId) (c : CycleState) (tm : Option Timer) : Writes s (s.enter h c tm) :=
  of_write (.enter s h c tm)

theorem goIdle (s : State) (h : HeadId) : Writes s (s.goIdle h) := by
  unfold State.goIdle
  exact ((updHead s h fun _ => rfl).trans (putOutput _ h _)).trans (enter _ h _ _)

theorem clearHeads (s : State) : Writes s s.clearHeads := of_write (.clearHeads s)

theorem fileReport (s : State) (r : Report) : Writes s (s.fileReport r) := by
  rw [State.fileReport_eq]; exact (refl s).elsewhere

theorem reportFill (s : State) (h : HeadId) (v : Verdict) : Writes s (s.reportFill h v) := by
  unfold State.reportFill
  split
  · exact refl s
  · exact ((fileReport s _).trans (updHead _ h fun _ => rfl)).trans (of_write (.countFault _ h v))

theorem reportSkipped (s : State) (h : HeadId) : Writes s (s.reportSkipped h) := by
  unfold State.reportSkipped State.reportUnfilled
  dsimp only
  split
  · exact (fileReport s _).trans (of_write (.countFault _ h _))
  · exact refl s

theorem reportHalted (s : State) (h : HeadId) : Writes s (s.reportHalted h) := by
  have halted : Writes s (State.reportHalted.halted h s) := by
    unfold State.reportHalted.halted
    split
    · exact refl s
    · exact reportFill s h _
  unfold State.reportHalted
  cases (s.head h).cycle with
  | pressurize | fillSoft | fillFast | fillTopUp | closing | snift => exact halted
  | skip => exact reportSkipped s h
  | _ => exact refl s

theorem endDraining (s : State) : Writes s s.endDraining :=
  (((refl s).elsewhere (u := s.setMode .standby)).trans (foldl reportSkipped allHeads _)).trans (clearHeads _)

theorem judgeDrain (s : State) : Writes s s.judgeDrain := by
  unfold State.judgeDrain
  split
  · exact endDraining s
  · exact refl s

theorem leaveFlight (s : State) (h : HeadId) (c : CycleState) (tm : Option Timer) : Writes s (s.leaveFlight h c tm) :=
  (enter s h c tm).trans (judgeDrain _)

theorem leaveToIdle (s : State) (h : HeadId) : Writes s (s.leaveToIdle h) := (goIdle s h).trans (judgeDrain _)

theorem enterPressurize (s : State) (h : HeadId) : Writes s (s.enterPressurize h) := by
  have adopted : Writes s (s.adopt h) := of_write (.adopt s h)
  unfold State.enterPressurize
  dsimp only
  split
  · exact refl s
  · split
    · exact (adopted.trans (updHead _ h fun _ => rfl)).trans (enter _ h _ _)
    · exact (adopted.trans (updHead _ h fun _ => rfl)).trans (enter _ h _ _)

theorem enterClosing (s : State) (h : HeadId) (late : Bool) : Writes s (s.enterClosing h late) := by
  unfold State.enterClosing
  split
  · exact refl s
  · exact (updHead s h fun _ => rfl).trans (enter _ h _ _)

theorem abortFill (s : State) (h : HeadId) (v : Verdict) : Writes s (s.abortFill h v) := by
  unfold State.abortFill
  split
  · exact refl s
  · exact ((reportFill s h v).trans (putOutput _ h _)).trans (leaveFlight _ h _ _)

theorem endFill (s : State) (h : HeadId) (v : Verdict) : Writes s (s.endFill h v) :=
  (reportFill s h v).trans (leaveToIdle _ h)

theorem endRun (s : State) (h : HeadId) (o : CalOutcome) (u : CalState) : Writes s (s.endRun h o u) := by
  unfold State.endRun
  split
  · exact refl s
  · exact (goIdle s h).elsewhere

theorem finishSnift (s : State) (h : HeadId) : Writes s (s.finishSnift h) := by
  unfold State.finishSnift State.completeRun
  split
  · exact refl s
  · split
    · split
      · exact refl s
      · exact endRun s h _ _
    · exact (reportFill s h _).trans (leaveFlight _ h _ _)

theorem finishSettle (s : State) (h : HeadId) : Writes s (s.finishSettle h) := by
  unfold State.finishSettle
  split
  · exact refl s
  · next c _ =>
    dsimp only
    have learned : Writes s (if s.mode = .calibration then s
        else (s.learn h c).updHead h fun x => { x with fill := some (learnedContext (s.recipe c.slot) c) }) := by
      split
      · exact refl s
      · rw [(s.learn_spec h c).1]
        exact ((refl s).elsewhere).trans (updHead _ h fun _ => rfl)
    split
    · exact learned.trans (finishSnift _ h)
    · exact learned.trans (enter _ h _ _)

/-! ### Halts, the calibration and the cleaning -/

theorem endCalibration (s : State) : Writes s s.endCalibration := by
  have abandoned : Writes s s.abandonRun := by
    unfold State.abandonRun
    split
    · split
      · exact endRun s _ _ _
      · exact refl s
    · exact refl s
  exact abandoned.elsewhere

theorem haltHeads (s : State) : Writes s s.haltHeads := (foldl reportHalted allHeads s).trans (clearHeads _)

theorem haltAll (s : State) : Writes s s.haltAll := by
  have halted := (endCalibration s).trans (haltHeads s.endCalibration)
  unfold State.haltAll
  generalize s.endCalibration.haltHeads = t at halted ⊢
  exact halted.elsewhere

theorem releaseDriven (s : State) : Writes s s.releaseDriven := foldl goIdle _ s

theorem driveTo (s : State) (c : CycleState) : Writes s (s.driveTo c) := foldl (fun u h => enter u h c none) _ s

theorem endCleaningEarly (s : State) : Writes s s.endCleaningEarly := by
  have released := releaseDriven s
  unfold State.endCleaningEarly
  generalize s.releaseDriven = t at released ⊢
  exact released.elsewhere

theorem endCycle (s : State) (plan : CleaningPlan) : Writes s (s.endCycle plan) := by
  have released := releaseDriven s
  unfold State.endCycle State.nextCycle State.completeCleaning
  split
  · exact trans (refl s).elsewhere (driveTo _ _)
  · generalize s.releaseDriven = t at released ⊢
    exact released.elsewhere

theorem endOpenPhase (s : State) (plan : CleaningPlan) : Writes s (s.endOpenPhase plan) := by
  unfold State.endOpenPhase
  dsimp only
  split
  · exact trans (refl s).elsewhere (endCycle _ plan)
  · exact trans (refl s).elsewhere (driveTo _ _)

theorem dropTerminals (s : State) : Writes s s.dropTerminals :=
  (refl s).elsewhere (by simp) (by simp) (by simp) (by simp) (by simp)

theorem losePower (s : State) : Writes s s.losePower := by
  have dropped := dropTerminals s
  unfold State.losePower
  generalize s.dropTerminals = t at dropped ⊢
  exact trans dropped.elsewhere (haltAll _)

theorem deriveTerminalsWhere (s : State) (p : Head → Bool) : Writes s (s.deriveTerminalsWhere p) :=
  (refl s).elsewhere (by simp) (by simp) (by simp) (by simp) (by simp)

theorem regainPower (s : State) : Writes s s.regainPower := by
  unfold State.regainPower
  refine trans ?_ (deriveTerminalsWhere _ _)
  exact (refl s).elsewhere

/-! ### The encoder -/

theorem beginPass (s : State) (h : HeadId) : Writes s (s.beginPass h) := by
  unfold State.beginPass
  dsimp only
  split
  · exact (updHead s h fun _ => rfl).trans (enter _ h _ _)
  · split
    · exact enterPressurize s h
    · split
      · exact enter s h _ _
      · exact refl s

theorem infeed (s : State) (h : HeadId) : Writes s (s.infeed h) := by
  unfold State.infeed
  split
  · exact beginPass s h
  · exact (goIdle s h).trans (beginPass _ h)
  all_goals exact refl s

theorem latestClose (s : State) (h : HeadId) : Writes s (s.latestClose h) := by
  unfold State.latestClose
  split
  · exact enterClosing s h true
  · exact refl s

theorem discharge (s : State) (h : HeadId) : Writes s (s.discharge h) := by
  unfold State.discharge
  cases (s.head h).cycle with
  | waitBottle => exact leaveToIdle s h
  | skip => exact (reportSkipped s h).trans (goIdle _ h)
  | pressurize | fillSoft | fillFast | fillTopUp | closing | snift => exact endFill s h _
  | done | aborted => exact goIdle s h
  | idle | cleanOpen | cleanPause => exact refl s

theorem takeArrival (s : State) (a : Arrival) : Writes s (s.takeArrival a) := by
  unfold State.takeArrival
  split
  · split
    · exact infeed s _
    · exact latestClose s _
    · exact discharge s _
  · exact refl s

theorem stepForward (s : State) : Writes s s.stepForward := by
  unfold State.stepForward
  dsimp only
  split
  · exact (refl s).elsewhere
  · split
    · unfold State.cross
      refine trans ?_ (foldl takeArrival _ _)
      exact (refl s).elsewhere
    · exact (refl s).elsewhere

theorem faultTracker (s : State) : Writes s s.faultTracker := by
  unfold State.faultTracker
  dsimp only
  generalize ht : State.raise { s with tracker := { s.tracker with status := .faulted } } .encoderFault = t
  have latched : Writes s t := by rw [← ht]; exact (refl s).elsewhere
  have halted := latched.trans (haltHeads t)
  generalize t.haltHeads = v at halted ⊢
  cases t.mode with
  | standby => exact latched.elsewhere
  | production | draining => exact halted.elsewhere
  | halted | cleaning | calibration => exact latched

theorem stepBackward (s : State) : Writes s s.stepBackward := by
  unfold State.stepBackward
  dsimp only
  split
  · refine trans ?_ (faultTracker _)
    exact (refl s).elsewhere
  · exact (refl s).elsewhere

theorem checkIndex (s : State) : Writes s s.checkIndex := by
  unfold State.checkIndex
  dsimp only
  split
  · exact (refl s).elsewhere
  · split
    · refine trans ?_ (faultTracker _)
      exact (refl s).elsewhere
    · exact (refl s).elsewhere

theorem markIndex (s : State) : Writes s s.markIndex := by
  have stepped := stepForward s
  unfold State.markIndex
  generalize s.stepForward = t at stepped ⊢
  split
  · exact stepped.elsewhere
  · exact stepped.trans (checkIndex t)

/-! ### Contacts, timers and scans -/

theorem contactCame (s : State) (h : HeadId) : Writes s (s.contactCame h) := by
  unfold State.contactCame State.startRun
  split
  · split
    · split
      · exact refl s
      · exact (enterPressurize s h).elsewhere
    · exact refl s
  · split
    · split
      · exact (updHead s h fun _ => rfl).trans (leaveFlight _ h _ _)
      · exact enterPressurize s h
    · exact updHead s h fun _ => rfl
    all_goals exact refl s

theorem contactWent (s : State) (h : HeadId) : Writes s (s.contactWent h) := by
  have burst : Writes s (s.burst h) := by
    unfold State.burst
    split
    · exact endRun s h _ _
    · exact abortFill s h _
  unfold State.contactWent
  cases (s.head h).cycle with
  | pressurize | fillSoft | fillFast | fillTopUp | closing => exact burst
  | snift =>
    dsimp only
    split
    · exact endRun s h _ _
    · exact endFill s h _
  | _ => exact refl s

theorem endVent (s : State) (h : HeadId) : Writes s (s.endVent h) :=
  (updHead s h (f := fun x => { x with timer := none }) fun _ => rfl).elsewhere

theorem takeDecision (s : State) (h : HeadId) (d : Decision) : Writes s (s.takeDecision d h) := by
  cases d with
  | stay => exact refl s
  | close => exact enterClosing s h false
  | toTopUp => exact enter s h _ _
  | toFast => exact enter s h _ _
  | abortStuck =>
    unfold State.takeDecision State.stuckAbort
    dsimp only
    split
    · exact endRun s h _ _
    · exact abortFill s h _

theorem scanBank (s : State) (b : BankId) : Writes s (s.scanBank b) := by
  have lanes : Writes s (s.scanLanes b) := of_write (.scanLanes s b)
  have moved := lanes.trans (foldl (fun u h => takeDecision u h (s.decision h)) (s.movedBy b) _)
  exact trans moved.elsewhere (foldl (fun u h => takeDecision u h .abortStuck) _ _)

end Writes

/-- The requests that write a head's static part, a slot, or a binding. -/
def writesBooks : Instr → Bool
  | .setHead _ _ _ => true
  | .enableHeads _ => true
  | .disableHeads _ => true
  | .loadRecipe _ _ => true
  | .unloadRecipe _ => true
  | .bindRecipe _ _ => true
  | .enterActualVolume _ => true
  | _ => false

theorem State.dropReservationOn_eq (k : SlotId) (s : State) :
    s.dropReservationOn k = { s with reservation := reservationWithout k s.reservation } := by
  unfold State.dropReservationOn reservationWithout
  cases hr : s.reservation with
  | none => dsimp only; rw [← hr]
  | some r =>
    dsimp only
    split
    · rfl
    · rw [← hr]

/-- Every other request is a sequence of elementary writes. -/
theorem Served.writes {s t : State} {i : Instr} (h : Served s i t) (hi : writesBooks i = false) : Writes s t := by
  cases h with
  | setHead | enableHeads | disableHeads | loadRecipe | unloadRecipe | bindRecipe | enterActualVolume => cases hi
  | setValveProfile k p hm => exact ((Writes.refl s).elsewhere).trans (.deriveTerminalsWhere _ _)
  | restoreCorrections k values hm hk => rw [State.dropReservationOn_eq]; exact (Writes.refl s).elsewhere
  | drain hm => exact ((Writes.refl s).elsewhere).trans (.judgeDrain _)
  | stopCleaning hm => exact (Writes.endCleaningEarly s).elsewhere
  | halt broadcast => exact .haltAll s
  | startCleaning openTime pauseTime cycles hm hp => exact ((Writes.refl s).elsewhere).trans (.driveTo _ _)
  | endCalibration hm => exact (Writes.endCalibration s).elsewhere
  | _ => exact (Writes.refl s).elsewhere

/-- A law survives every effect if it survives the elementary writes, the requests on heads and slots, and the
resets. -/
theorem Effect.keeps {P : State → Prop} {fits : Prop} {s t : State} (he : Effect fits s t)
    (hwrite : ∀ {u v}, Write u v → P u → P v)
    (hrequest : ∀ {i t}, (fits → Instr.factorFits i = true) → Served s i t → writesBooks i = true → P s → P t)
    (hpower : ∀ pins, P s → P (s.powerOnWith pins)) (hrestart : P s → P s.restart) (hs : P s) : P t := by
  have writes : ∀ {v}, Writes s v → P v := fun h => h.keeps hwrite hs
  cases he with
  | none => exact hs
  | request i hi =>
    have served := answerRequest_served i s
    cases hw : writesBooks i with
    | true => exact hrequest hi served hw hs
    | false => exact writes (served.writes hw)
  | halt => exact writes (.haltAll s)
  | forward => exact writes (.stepForward s)
  | backward => exact writes (.stepBackward s)
  | index => exact writes (.markIndex s)
  | quadrature => exact writes (.faultTracker s)
  | contactCame h => exact writes (.contactCame s h)
  | contactWent h => exact writes (.contactWent s h)
  | contactWindow h => exact writes (.leaveToIdle s h)
  | pressurizeDwell h => exact writes (.enter s h _ _)
  | settle h => exact writes (.finishSettle s h)
  | sniftDwell h => exact writes (.finishSnift s h)
  | ventDwell h => exact writes (.endVent s h)
  | tick => exact writes (Writes.refl s).elsewhere
  | pulse lanes => exact writes (Writes.refl s).elsewhere
  | scan b => exact writes (.scanBank s b)
  | openPhase plan => exact writes (.endOpenPhase s plan)
  | pausePhase plan => exact writes (.endCycle s plan)
  | powerLoss => exact writes (.losePower s)
  | powerReturn => exact writes (.regainPower s)
  | ready high => exact writes (Writes.refl s).elsewhere
  | powerOn pins => exact hpower pins hs
  | lineHeld => exact writes (.dropTerminals s)
  | restart => exact hrestart hs

end Sys2Proof.Machine
end

section
/-! PROPERTY. The law of the meter factors (R17) and the law of the counts (R42, R92, R93) through every step. -/

namespace Sys2Proof.Machine

/-! ### Meter factors -/

/-- A head's factor may only be 0 at a DISABLED head, and lies in 200..65,535 otherwise (R17). -/
def Head.factorLawful (x : Head) : Prop :=
  (x.factor = 0 ∨ (200 ≤ x.factor ∧ x.factor ≤ 65535)) ∧ (x.enable ≠ .disabled → x.factor ≠ 0)

theorem meterFactorLaw_iff (s : State) :
    MeterFactorLaw s ↔ (∀ h, (s.head h).factorLawful) ∧ ∀ c ∈ s.pending, c.wellFormed = true := by
  unfold MeterFactorLaw Head.factorLawful
  rw [forall_and, and_assoc]

/-- A law on each head's record and on the waiting commands survives what keeps both. -/
theorem MeterFactorLaw.of_heads {s t : State} (hs : MeterFactorLaw s)
    (hheads : ∀ h, (s.head h).factorLawful → (t.head h).factorLawful) (hpending : t.pending = s.pending) :
    MeterFactorLaw t := by
  rw [meterFactorLaw_iff] at *
  exact ⟨fun h => hheads h (hs.1 h), hpending ▸ hs.2⟩

theorem factorLawful_congr {x y : Head} (hf : y.factor = x.factor) (he : y.enable = x.enable) (hx : x.factorLawful) :
    y.factorLawful := by
  unfold Head.factorLawful at *; rwa [hf, he]

theorem head_countFault (s : State) (h g : HeadId) (v : Verdict) : (s.countFault h v).head g =
    if g = h then countedHead s.tracker.geometry.lockoutThreshold v (s.head h) else s.head g := by
  rw [State.countFault_eq]; exact vector_set_get _ _ _ _

theorem head_scanLanes (s : State) (b : BankId) (g : HeadId) :
    (s.scanLanes b).head g = if g.val / 16 = b.val then s.meteredHead g else s.head g := vector_ofFn_get _ _

theorem meteredHead_eq (s : State) (h : HeadId) :
    s.meteredHead h = { s.head h with fill := (s.meteredHead h).fill } := by
  unfold State.meteredHead; split <;> rfl

theorem countedHead_factorLawful {x : Head} (n : Nat) (v : Verdict) (hx : x.factorLawful) :
    (countedHead n v x).factorLawful := by
  unfold Head.factorLawful countedHead locksOut at *
  obtain ⟨hrange, hzero⟩ := hx
  refine ⟨hrange, fun he => hzero fun hd => he ?_⟩
  simp [hd]

/-- The elementary writes keep the law: none writes a factor, and only an ENABLED head is locked out (R41). -/
theorem Write.keeps_meterFactorLaw {s t : State} (hw : Write s t) (hs : MeterFactorLaw s) : MeterFactorLaw t := by
  cases hw with
  | other hheads _ _ _ hpending => exact hs.of_heads (fun h => by unfold State.head; rw [hheads]; exact id) hpending
  | dynamic h f hf =>
    refine hs.of_heads (fun g hg => ?_) rfl
    rw [State.head_updHead, hf]
    split
    · next e => subst e; exact hg
    · exact hg
  | enter h c tm =>
    refine hs.of_heads (fun g hg => ?_) rfl
    rw [State.head_enter]
    split
    · next e => subst e; exact hg
    · exact hg
  | countFault h v =>
    refine hs.of_heads (fun g hg => ?_) (by rw [State.countFault_eq])
    rw [head_countFault]
    split
    · next e => subst e; exact countedHead_factorLawful _ v hg
    · exact hg
  | adopt h =>
    obtain ⟨hframe, hhead, -⟩ := s.adopt_spec h
    refine hs.of_heads (fun g hg => ?_) (by rw [hframe])
    rw [hhead]
    split
    · next e => subst e; exact hg
    · exact hg
  | clearHeads => exact hs.of_heads (fun g hg => by rw [State.head_clearHeads]; exact hg) (by simp)
  | scanLanes b =>
    refine hs.of_heads (fun g hg => ?_) (by simp)
    rw [head_scanLanes, meteredHead_eq]
    split <;> exact hg

/-- A BIND changes the slots of a head alone, and the counts. -/
theorem bindHead_cases (target : Option SlotId) (s : State) (h : HeadId) :
    ∃ a p, bindHead target s h = s.assignSlots h a p ∧
      (∀ k, p = some k → a ≠ some k ∧ target = some k) ∧ (a = target ∨ a = (s.head h).active) := by
  have now : ∃ a p, bindNow target s h = s.assignSlots h a p ∧
      (∀ k, p = some k → a ≠ some k ∧ target = some k) ∧ (a = target ∨ a = (s.head h).active) :=
    ⟨target, none, rfl, fun k hk => (Option.some_ne_none k hk.symm).elim, .inl rfl⟩
  cases target with
  | none => exact now
  | some k =>
    have later : ∃ a p, bindLater k s h = s.assignSlots h a p ∧
        (∀ j, p = some j → a ≠ some j ∧ some k = some j) ∧ (a = some k ∨ a = (s.head h).active) := by
      unfold bindLater
      dsimp only
      split
      · exact ⟨some k, none, rfl, fun j hj => (Option.some_ne_none j hj.symm).elim, .inl rfl⟩
      · next ha => exact ⟨_, some k, rfl, fun j hj => by cases hj; exact ⟨ha, rfl⟩, .inr rfl⟩
    unfold bindHead
    cases s.mode with
    | standby | halted | cleaning => exact now
    | production | draining => exact later
    | calibration =>
      dsimp only
      split
      · exact later
      · exact now

/-- What holds of a state holds after a BIND of a mask if it survives the BIND of a head. -/
theorem bindMask_keeps {P : State → Prop} {target : Option SlotId} (hb : ∀ u h, P u → P (bindHead target u h))
    (mask : HeadMask) {s : State} (hs : P s) : P (bindMask mask target s) := by
  unfold bindMask
  exact List.foldlRecOn _ _ hs fun u hu h _ => hb u h hu

theorem assignSlots_meterFactorLaw {s : State} (hs : MeterFactorLaw s) (h : HeadId) (a p : Option SlotId) :
    MeterFactorLaw (s.assignSlots h a p) := by
  refine hs.of_heads (fun g hg => ?_) (by simp)
  rw [State.head_assignSlots]
  split
  · next e => subst e; exact hg
  · exact hg

theorem setEnable_meterFactorLaw {s : State} (hs : MeterFactorLaw s) (mask : HeadMask) {f : Head → Head}
    (hf : ∀ h, inMask mask h = true → (s.head h).factorLawful → (f (s.head h)).factorLawful) :
    MeterFactorLaw (s.setEnable mask f) := by
  refine hs.of_heads (fun g hg => ?_) (by simp)
  rw [State.head_setEnable]
  split
  · next hm => exact hf g hm hg
  · exact hg

theorem clearColumn_eq (k : SlotId) (s : State) : s.clearColumn k =
    { s.putColumn k zeroColumn with reservation := reservationWithout k s.reservation } :=
  State.dropReservationOn_eq k _

/-- The requests that write factors or enable states keep them in range (R17 to R20, R158). -/
theorem Served.keeps_meterFactorLaw {s t : State} {i : Instr} (h : Served s i t) (hw : writesBooks i = true)
    (hi : Instr.factorFits i = true) (hs : MeterFactorLaw s) : MeterFactorLaw t := by
  have written : ∀ (g : HeadId) (f : Head → Head), (f (s.head g)).factorLawful → MeterFactorLaw (s.updHead g f) := by
    intro g f hf
    refine hs.of_heads (fun j hj => ?_) rfl
    rw [State.head_updHead]
    split
    · exact hf
    · exact hj
  have lawful := ((meterFactorLaw_iff s).mp hs).1
  cases h with
  | same => exact hs
  | @setHead head profile factor h p hm hf hz =>
    have hfits : factor ≤ 65535 := by simpa [Instr.factorFits] using hi
    refine written h (fun x => { x with profile := p, factor := factor }) ⟨?_, fun he h0 => he (hz h0)⟩
    exact hf.imp id fun hf => ⟨hf, hfits⟩
  | enableHeads mask hf =>
    exact setEnable_meterFactorLaw hs mask fun h hh hx => ⟨hx.1, fun _ => hf h hh⟩
  | disableHeads mask =>
    exact setEnable_meterFactorLaw hs mask fun h _ hx => ⟨hx.1, fun he => absurd rfl he⟩
  | loadRecipe k r hb hr => rw [clearColumn_eq]; exact hs
  | unloadRecipe k hb => rw [clearColumn_eq]; exact hs
  | bindRecipe mask target hk =>
    refine bindMask_keeps (fun u h hu => ?_) mask hs
    obtain ⟨a, p, e, -⟩ := bindHead_cases target u h
    rw [e]; exact assignSlots_meterFactorLaw hu h a p
  | enterActualVolume volume h run last new hm hc hh hl hn =>
    simp only [between, Bool.and_eq_true, decide_eq_true_eq] at hn
    exact written h (fun x => { x with factor := new }) ⟨.inr hn, fun _ => by show new ≠ 0; omega⟩
  | _ => cases hw

theorem head_powerOnWith (pins : Pins) (s : State) (h : HeadId) : (s.powerOnWith pins).head h = Head.powerOn := by
  show (Vector.replicate 64 Head.powerOn)[h] = _; simp

theorem head_restart (s : State) (h : HeadId) : s.restart.head h = (s.head h).restarted := vector_ofFn_get _ _

theorem Effect.keeps_meterFactorLaw {s t : State} (he : Effect True s t) (hs : MeterFactorLaw s) :
    MeterFactorLaw t := by
  refine he.keeps Write.keeps_meterFactorLaw (fun hi h hw => h.keeps_meterFactorLaw hw (hi trivial))
    (fun pins hs => hs.of_heads (fun h _ => ?_) rfl) (fun hs => hs.of_heads (fun h hh => ?_) rfl) hs
  · rw [head_powerOnWith]; exact ⟨.inl rfl, fun h => absurd rfl h⟩
  · rw [head_restart]; exact hh

theorem factorFits_of_wellFormed {c : Instr} (h : c.wellFormed = true) : Instr.factorFits c = true := by
  cases c with
  | setHead head profile factor =>
    simp only [Instr.wellFormed, fitsBytes, Bool.and_eq_true, decide_eq_true_eq] at h
    simp only [Instr.factorFits, decide_eq_true_eq]; omega
  | _ => rfl

/-- Settles O53: the front command fits the link, so the factor it may write is in range. -/
theorem stepKeepsTheMeterFactorLaw : Obligations.StepKeepsTheMeterFactorLaw := by
  intro s t hs he
  unfold step at he
  split at he
  · cases he; exact hs
  · next c rest hp =>
    obtain ⟨hheads, hwaiting⟩ := (meterFactorLaw_iff s).mp hs
    rw [hp, List.forall_mem_cons] at hwaiting
    have hfits := factorFits_of_wellFormed hwaiting.1
    refine exec_keeps_of_effect (P := MeterFactorLaw) (fun hc hu => ?_) (fun hv => ?_)
      ((meterFactorLaw_iff { s with pending := rest }).mpr ⟨hheads, hwaiting.2⟩) he
    · rw [hc]; exact hu
    · simp only [hfits] at hv; exact hv.keeps_meterFactorLaw

/-! ### Counts -/

/-- The counts follow one head's new slots (R92, R93). -/
theorem assignSlots_countsLaw {s : State} (hs : CountsLaw s) (h : HeadId) {a p : Option SlotId}
    (hapart : ∀ k, p = some k → a ≠ some k)
    (hloaded : ∀ k, a = some k ∨ p = some k → (s.slot k).recipe.isSome = true) : CountsLaw (s.assignSlots h a p) := by
  obtain ⟨hflight, hbindings, hchangeovers, hdistinct, hbound⟩ := hs
  have others : ∀ g, g ≠ h → (s.assignSlots h a p).head g = s.head g := fun g hg => by simp [hg]
  have self : (s.assignSlots h a p).head h = { s.head h with active := a, pendingSlot := p } := by simp
  have counted : ∀ k, ((s.assignSlots h a p).slot k).bindings =
      allHeads.countP fun g => ((s.assignSlots h a p).head g).names k := by
    intro k
    have change := countP_allHeads_change (p := fun g => (s.head g).names k)
      (q := fun g => ((s.assignSlots h a p).head g).names k) h fun g hg => by rw [others g hg]
    have before : (s.slot k).bindings = allHeads.countP fun g => (s.head g).names k := hbindings k
    rw [self] at change
    rw [State.slot_assignSlots]
    dsimp only at change ⊢
    omega
  refine ⟨?_, counted, ?_, fun g k => ?_, fun k hk => ?_⟩
  · refine State.flightCounted_change h others ?_ hflight
    rw [self]; simp
  · have change := countP_allHeads_change (p := fun g => (s.head g).pendingSlot.isSome)
      (q := fun g => ((s.assignSlots h a p).head g).pendingSlot.isSome) h fun g hg => by rw [others g hg]
    have count : (s.assignSlots h a p).pendingChangeovers =
        s.pendingChangeovers + one p.isSome - one (s.head h).pendingSlot.isSome := rfl
    rw [self] at change
    rw [count, hchangeovers]
    dsimp only at change
    omega
  · by_cases e : g = h
    · subst e; rw [self]; exact hapart k
    · rw [others g e]; exact hdistinct g k
  · rw [State.slot_assignSlots]
    by_cases hnew : a = some k ∨ p = some k
    · exact hloaded k hnew
    · refine hbound k ?_
      have : one ({ s.head h with active := a, pendingSlot := p : Head }.names k) = 0 := by
        simp only [not_or] at hnew
        simp [Head.names, one, hnew]
      rw [State.slot_assignSlots] at hk
      dsimp only at hk this
      omega

/-- A slot that a head names is LOADED. -/
theorem CountsLaw.loaded {s : State} (hs : CountsLaw s) {h : HeadId} {k : SlotId}
    (hk : (s.head h).active = some k ∨ (s.head h).pendingSlot = some k) : (s.slot k).recipe.isSome = true := by
  obtain ⟨-, hbindings, -, -, hbound⟩ := hs
  refine hbound k ?_
  rw [hbindings k, List.countP_pos_iff]
  exact ⟨h, mem_allHeads h, by simpa using hk⟩

/-- The law reads each head's state and slots, the slots and the counts. -/
theorem CountsLaw.of_heads {s t : State} (hs : CountsLaw s)
    (hheads : ∀ h, (t.head h).cycle = (s.head h).cycle ∧ (t.head h).active = (s.head h).active ∧
      (t.head h).pendingSlot = (s.head h).pendingSlot)
    (hslots : t.slots = s.slots) (hflight : t.inFlight = s.inFlight)
    (hchangeovers : t.pendingChangeovers = s.pendingChangeovers) : CountsLaw t := by
  have hcycle := fun h => (hheads h).1
  have hactive := fun h => (hheads h).2.1
  have hpending := fun h => (hheads h).2.2
  have hsame : ∀ k, t.slot k = s.slot k := fun k => by unfold State.slot; rw [hslots]
  unfold CountsLaw at *
  simpa only [hcycle, hactive, hpending, hsame, hflight, hchangeovers] using hs

theorem Write.keeps_countsLaw {s t : State} (hw : Write s t) (hs : CountsLaw s) : CountsLaw t := by
  cases hw with
  | other hheads hslots hflight hchangeovers _ =>
    refine hs.of_heads (fun h => ?_) hslots hflight hchangeovers
    have same : t.head h = s.head h := by unfold State.head; rw [hheads]
    rw [same]; exact ⟨rfl, rfl, rfl⟩
  | dynamic h f hf =>
    refine hs.of_heads (fun g => ?_) rfl rfl rfl
    rw [State.head_updHead, hf]
    split
    · next e => subst e; exact ⟨rfl, rfl, rfl⟩
    · exact ⟨rfl, rfl, rfl⟩
  | enter h c tm =>
    obtain ⟨hflight, hrest⟩ := hs
    have slot : ∀ g, ((s.enter h c tm).head g).active = (s.head g).active ∧
        ((s.enter h c tm).head g).pendingSlot = (s.head g).pendingSlot := by
      intro g
      rw [State.head_enter]
      split
      · next e => subst e; exact ⟨rfl, rfl⟩
      · exact ⟨rfl, rfl⟩
    have hactive := fun g => (slot g).1
    have hpending := fun g => (slot g).2
    refine ⟨State.flightCounted_change h (fun g hg => by simp [hg]) (by simp) hflight, ?_⟩
    simp only [hactive, hpending]
    exact hrest
  | countFault h v =>
    have hframe := State.countFault_eq s h v
    refine hs.of_heads (fun g => ?_) (by rw [hframe]) (by rw [hframe]) (by rw [hframe])
    rw [head_countFault]
    split
    · next e => subst e; exact ⟨rfl, rfl, rfl⟩
    · exact ⟨rfl, rfl, rfl⟩
  | adopt h =>
    unfold State.adopt
    split
    · next p hp =>
      refine assignSlots_countsLaw hs h (fun k hk => by cases hk) fun k hk => hs.loaded (h := h) (.inr ?_)
      rw [hp]
      exact hk.resolve_right (Option.some_ne_none k ·.symm)
    · exact hs
  | clearHeads =>
    obtain ⟨-, hrest⟩ := hs
    have slot : ∀ k, s.clearHeads.slot k = s.slot k := fun k => by unfold State.slot; rw [State.clearHeads_slots]
    refine ⟨?_, ?_⟩
    · simp [Head.cleared, CycleState.inFlight]
    · simp only [State.head_clearHeads, Head.cleared, slot, State.clearHeads_pendingChangeovers]
      exact hrest
  | scanLanes b =>
    refine hs.of_heads (fun g => ?_) (by simp) (by simp) (by simp)
    rw [head_scanLanes, meteredHead_eq]
    split <;> exact ⟨rfl, rfl, rfl⟩

theorem putSlot_countsLaw {s : State} (hs : CountsLaw s) {k : SlotId} (hk : (s.slot k).bindings = 0)
    (r : Option Recipe) : CountsLaw (s.putSlot k { s.slot k with recipe := r }) := by
  obtain ⟨hflight, hbindings, hchangeovers, hdistinct, hbound⟩ := hs
  have bindings : ∀ j, ((s.putSlot k { s.slot k with recipe := r }).slot j).bindings = (s.slot j).bindings := by
    intro j
    rw [State.slot_putSlot]
    split
    · next e => subst e; rfl
    · rfl
  refine ⟨hflight, fun j => (bindings j).trans (hbindings j), hchangeovers, hdistinct, fun j hj => ?_⟩
  rw [bindings] at hj
  rw [State.slot_putSlot]
  split
  · next e => subst e; omega
  · exact hbound j hj

theorem clearColumn_countsLaw {s : State} (hs : CountsLaw s) (k : SlotId) : CountsLaw (s.clearColumn k) := by
  rw [clearColumn_eq]; exact hs

/-- A BIND to a LOADED slot or to none keeps the law, and every slot LOADED or EMPTY (R92 to R98). -/
theorem bindHead_countsLaw {target : Option SlotId} {s : State} (hs : CountsLaw s)
    (hk : ∀ k, target = some k → (s.slot k).recipe.isSome = true) (h : HeadId) :
    CountsLaw (bindHead target s h) ∧ ∀ k, target = some k → ((bindHead target s h).slot k).recipe.isSome = true := by
  obtain ⟨a, p, e, hp, ha⟩ := bindHead_cases target s h
  rw [e]
  refine ⟨assignSlots_countsLaw hs h (fun k hpk => (hp k hpk).1) fun k hnamed => ?_, fun k htarget => ?_⟩
  · rcases hnamed with hak | hpk
    · rcases ha with ha | ha
      · exact hk k (ha.symm.trans hak)
      · exact hs.loaded (h := h) (.inl (ha.symm.trans hak))
    · exact hk k (hp k hpk).2
  · rw [State.slot_assignSlots]; exact hk k htarget

theorem setEnable_countsLaw {s : State} (hs : CountsLaw s) (mask : HeadMask) {f : Head → Head}
    (hf : ∀ x, (f x).cycle = x.cycle ∧ (f x).active = x.active ∧ (f x).pendingSlot = x.pendingSlot) :
    CountsLaw (s.setEnable mask f) := by
  refine hs.of_heads (fun g => ?_) (by simp) (by simp) (by simp)
  rw [State.head_setEnable]
  split
  · exact hf _
  · exact ⟨rfl, rfl, rfl⟩

theorem updHead_countsLaw {s : State} (hs : CountsLaw s) (h : HeadId) {f : Head → Head}
    (hf : ∀ x, (f x).cycle = x.cycle ∧ (f x).active = x.active ∧ (f x).pendingSlot = x.pendingSlot) :
    CountsLaw (s.updHead h f) := by
  refine hs.of_heads (fun g => ?_) rfl rfl rfl
  rw [State.head_updHead]
  split
  · next e => subst e; exact hf _
  · exact ⟨rfl, rfl, rfl⟩

theorem Served.keeps_countsLaw {s t : State} {i : Instr} (h : Served s i t) (hw : writesBooks i = true)
    (hs : CountsLaw s) : CountsLaw t := by
  cases h with
  | same => exact hs
  | @setHead head profile factor h p hm hf hz =>
    exact updHead_countsLaw hs h (f := fun x => { x with profile := p, factor := factor }) fun _ => ⟨rfl, rfl, rfl⟩
  | enableHeads mask hf => exact setEnable_countsLaw hs mask fun _ => ⟨rfl, rfl, rfl⟩
  | disableHeads mask => exact setEnable_countsLaw hs mask fun _ => ⟨rfl, rfl, rfl⟩
  | loadRecipe k r hb hr => exact clearColumn_countsLaw (putSlot_countsLaw hs hb _) k
  | unloadRecipe k hb => exact clearColumn_countsLaw (putSlot_countsLaw hs hb _) k
  | bindRecipe mask target hk =>
    exact (bindMask_keeps (P := fun u => CountsLaw u ∧ ∀ k, target = some k → (u.slot k).recipe.isSome = true)
      (fun u h hu => bindHead_countsLaw hu.1 hu.2 h) mask ⟨hs, hk⟩).1
  | enterActualVolume volume h run last new hm hc hh hl hn =>
    exact updHead_countsLaw hs h (f := fun x => { x with factor := new }) fun _ => ⟨rfl, rfl, rfl⟩
  | _ => cases hw

theorem powerOnWith_countsLaw (pins : Pins) (s : State) : CountsLaw (s.powerOnWith pins) := by
  have slot : ∀ k, (s.powerOnWith pins).slot k = ⟨none, 0⟩ := fun k => by
    show (Vector.replicate 8 (⟨none, 0⟩ : Slot))[k] = _; simp
  unfold CountsLaw
  simp only [head_powerOnWith, slot]
  simp [State.powerOnWith, State.powerOn, Head.powerOn, CycleState.inFlight]

theorem restart_countsLaw {s : State} (hs : CountsLaw s) : CountsLaw s.restart := by
  have slot : ∀ k, s.restart.slot k =
      { s.slot k with bindings := s.countHeads fun x => decide (x.active = some k) } := fun k => vector_ofFn_get _ _
  refine ⟨?_, fun k => ?_, ?_, fun h k hk => ?_, fun k hk => ?_⟩
  · rw [show s.restart.inFlight = 0 from rfl]
    simp [head_restart, Head.restarted, Head.cleared, CycleState.inFlight]
  · simp [slot, head_restart, Head.restarted, Head.cleared, State.countHeads]
  · rw [show s.restart.pendingChangeovers = 0 from rfl]
    simp [head_restart, Head.restarted]
  · rw [head_restart] at hk; cases hk
  · rw [slot] at hk ⊢
    obtain ⟨h, -, hh⟩ := List.countP_pos_iff.mp hk
    exact hs.loaded (h := h) (.inl (by simpa using hh))

theorem Effect.keeps_countsLaw {fits : Prop} {s t : State} (he : Effect fits s t) (hs : CountsLaw s) : CountsLaw t :=
  he.keeps Write.keeps_countsLaw (fun _ h => h.keeps_countsLaw) (fun pins _ => powerOnWith_countsLaw pins s)
    restart_countsLaw hs

/-- Settles O57: every elementary write and every request on slots keeps the counts. -/
theorem stepKeepsTheCountsLaw : Obligations.StepKeepsTheCountsLaw := fun _ _ =>
  step_keeps (fun _ _ => id) fun hs he =>
    exec_keeps_of_effect (fun hc hu => by rw [hc]; exact hu) Effect.keeps_countsLaw hs he

end Sys2Proof.Machine
end

section
/-! SUPPORT. The law of the heads (R22, R107, R135): what it asks of one head, and the operations on one head that keep
it. -/

namespace Sys2Proof.Machine

/-! ### What the law asks of one head -/

/-- The fill context, the timer and the open set of a head are those of its state (R22, R107). -/
def State.sound (s : State) (h : HeadId) : Prop :=
  (s.head h).fill.isSome = (s.head h).cycle.holdsFill ∧ (s.head h).timerFits (s.output h).vent ∧
    (s.output h).opened = openSet (s.head h).cycle (s.output h).vent (s.profileOf h).fastDrive

/-- The states a head may take in the present mode (R135). -/
def State.allows (s : State) (h : HeadId) (c : CycleState) : Prop :=
  match s.mode with
  | .standby => c = .idle
  | .halted => c = .idle
  | .cleaning => c = .idle ∨
    (s.cleaning.driven[h] = true ∧ c = if s.cleaning.phase = .openPhase then .cleanOpen else .cleanPause)
  | .calibration => c = .idle ∨ (s.cal.head = some h ∧ s.cal.state = .dosing ∧ c.holdsFill = true)
  | .production => c ≠ .cleanOpen ∧ c ≠ .cleanPause
  | .draining => c ≠ .cleanOpen ∧ c ≠ .cleanPause

theorem headsLaw_iff (s : State) : HeadsLaw s ↔
    CleaningFitsMode s ∧ CalibrationFitsMode s ∧ ∀ h, s.allows h (s.head h).cycle ∧ s.sound h := Iff.rfl

theorem HeadsLaw.allows {s : State} (hs : HeadsLaw s) (h : HeadId) : s.allows h (s.head h).cycle :=
  (((headsLaw_iff s).mp hs).2.2 h).1

theorem HeadsLaw.sound {s : State} (hs : HeadsLaw s) (h : HeadId) : s.sound h := (((headsLaw_iff s).mp hs).2.2 h).2

theorem State.allows_idle (s : State) (h : HeadId) : s.allows h .idle := by
  unfold State.allows
  cases s.mode with
  | standby | halted => rfl
  | cleaning | calibration => exact .inl rfl
  | production | draining => exact ⟨by decide, by decide⟩

theorem State.allows_congr {s t : State} (hmode : t.mode = s.mode) (hcleaning : t.cleaning = s.cleaning)
    (hcal : t.cal = s.cal) (h : HeadId) (c : CycleState) : t.allows h c ↔ s.allows h c := by
  unfold State.allows; rw [hmode, hcleaning, hcal]

theorem State.allows_filling {s : State} (hm : s.fillingMode = true) (h : HeadId) (c : CycleState) :
    s.allows h c ↔ c ≠ .cleanOpen ∧ c ≠ .cleanPause := by
  unfold State.allows
  rcases s.fillingMode_iff.mp hm with hm | hm <;> rw [hm]

/-- Soundness reads a head's dynamic part, its open set and vent, and its profile's fast drive. -/
theorem State.sound_congr {s t : State} {h : HeadId} (hcycle : (t.head h).cycle = (s.head h).cycle)
    (htimer : (t.head h).timer = (s.head h).timer) (hfill : (t.head h).fill.isSome = (s.head h).fill.isSome)
    (hopened : (t.output h).opened = (s.output h).opened) (hvent : (t.output h).vent = (s.output h).vent)
    (hdrive : (t.profileOf h).fastDrive = (s.profileOf h).fastDrive) (hs : s.sound h) : t.sound h := by
  unfold State.sound Head.timerFits at *
  rwa [hcycle, htimer, hfill, hopened, hvent, hdrive]

/-- A head in IDLE is sound whatever its profile: nothing runs and nothing is open. -/
theorem State.sound_idle {s : State} {h : HeadId} (hc : (s.head h).cycle = .idle) : s.sound h ↔
    (s.head h).fill = none ∧ (s.head h).timer = none ∧ (s.output h).vent = false ∧
      (s.output h).opened = Outputs.allOff := by
  unfold State.sound Head.timerFits
  rw [hc]
  simp [CycleState.holdsFill, CycleState.isFillStage, openSet, and_assoc]

theorem timerFits_congr {x y : Head} (hc : y.cycle = x.cycle) (ht : y.timer = x.timer) (v : Bool) :
    y.timerFits v ↔ x.timerFits v := by
  unfold Head.timerFits; rw [hc, ht]

theorem State.sound_enter {s : State} {h : HeadId} {c : CycleState} {tm : Option Timer} :
    (s.enter h c tm).sound h ↔ (s.head h).fill.isSome = c.holdsFill ∧
      ({ s.head h with cycle := c, timer := tm } : Head).timerFits (s.output h).vent := by
  unfold State.sound
  simp [State.profileOf_enter]

theorem State.sound_goIdle (s : State) (h : HeadId) : (s.goIdle h).sound h := by
  rw [State.sound_idle (by simp [Head.cleared])]
  simp [Head.cleared]

/-- Only ABORTED has a vent (R39). -/
theorem State.sound.vent {s : State} {h : HeadId} (hs : s.sound h) (hc : (s.head h).cycle ≠ .aborted) :
    (s.output h).vent = false := by
  obtain ⟨-, ht, -⟩ := hs
  unfold Head.timerFits at ht
  cases hcycle : (s.head h).cycle with
  | aborted => exact absurd hcycle hc
  | _ => rw [hcycle] at ht; exact ht.2

/-- A head with a fill context is one that PRODUCTION, DRAINING or the run of a calibration has in a fill state. -/
theorem HeadsLaw.filling {s : State} (hs : HeadsLaw s) {h : HeadId} (hf : (s.head h).fill.isSome = true) :
    s.fillingMode = true ∨ (s.mode = .calibration ∧ s.cal.head = some h ∧ s.cal.state = .dosing) := by
  have hholds : (s.head h).cycle.holdsFill = true := (hs.sound h).1.symm.trans hf
  have hallows := hs.allows h
  have idle : (s.head h).cycle ≠ .idle := fun e => by rw [e] at hholds; cases hholds
  unfold State.allows at hallows
  cases hm : s.mode with
  | standby | halted => rw [hm] at hallows; exact absurd hallows idle
  | cleaning =>
    rw [hm] at hallows
    have hc := (hallows.resolve_left idle).2
    rw [hc] at hholds
    split at hholds <;> cases hholds
  | calibration =>
    rw [hm] at hallows
    obtain ⟨hhead, hstate, -⟩ := hallows.resolve_left idle
    exact .inr ⟨rfl, hhead, hstate⟩
  | production | draining => exact .inl (s.fillingMode_iff.mpr (by simp [hm]))

/-- A head with a fill context may take every state of a fill. -/
theorem HeadsLaw.allows_fill {s : State} (hs : HeadsLaw s) {h : HeadId} (hf : (s.head h).fill.isSome = true)
    {c : CycleState} (hc : c.holdsFill = true) : s.allows h c := by
  rcases hs.filling hf with hm | ⟨hm, hhead, hstate⟩
  · rw [State.allows_filling hm]
    constructor <;> (rintro rfl; cases hc)
  · unfold State.allows; rw [hm]; exact .inr ⟨hhead, hstate, hc⟩

/-! ### States that agree on what the law reads -/

/-- Every head's record and outputs may be written if each head keeps its state and stays sound. -/
theorem HeadsLaw.of_sound {s t : State} (hs : HeadsLaw s) (hcycle : ∀ h, (t.head h).cycle = (s.head h).cycle)
    (hsound : ∀ h, s.sound h → t.sound h) (hmode : t.mode = s.mode := by rfl)
    (hcleaning : t.cleaning = s.cleaning := by rfl) (hcal : t.cal = s.cal := by rfl) : HeadsLaw t := by
  obtain ⟨hclean, hcalibrate, -⟩ := (headsLaw_iff s).mp hs
  rw [headsLaw_iff]
  unfold CleaningFitsMode CalibrationFitsMode at *
  rw [hmode, hcleaning, hcal]
  exact ⟨hclean, hcalibrate, fun h => ⟨(State.allows_congr hmode hcleaning hcal _ _).mpr (hcycle h ▸ hs.allows h),
    hsound h (hs.sound h)⟩⟩

/-- Fields that the law does not read may be written. -/
theorem HeadsLaw.elsewhere {s t : State} (hs : HeadsLaw s) (hheads : t.heads = s.heads := by rfl)
    (houtputs : t.outputs = s.outputs := by rfl) (hprofiles : t.profiles = s.profiles := by rfl)
    (hmode : t.mode = s.mode := by rfl) (hcleaning : t.cleaning = s.cleaning := by rfl)
    (hcal : t.cal = s.cal := by rfl) : HeadsLaw t := by
  have hhead : ∀ h, t.head h = s.head h := fun h => by unfold State.head; rw [hheads]
  have hout : ∀ h, t.output h = s.output h := fun h => by unfold State.output; rw [houtputs]
  refine hs.of_sound (fun h => by rw [hhead]) (fun h => ?_) hmode hcleaning hcal
  refine State.sound_congr (by rw [hhead]) (by rw [hhead]) (by rw [hhead]) (by rw [hout]) (by rw [hout]) ?_
  rw [State.profileOf_congr hprofiles (by rw [hhead])]

/-- All heads idle and sound: the law in any mode, as far as the service units fit it. -/
theorem HeadsLaw.of_idle {t : State} (hclean : CleaningFitsMode t) (hcal : CalibrationFitsMode t)
    (hidle : ∀ h, (t.head h).cycle = .idle ∧ t.sound h) : HeadsLaw t :=
  (headsLaw_iff t).mpr ⟨hclean, hcal, fun h => ⟨(hidle h).1 ▸ t.allows_idle h, (hidle h).2⟩⟩

theorem HeadsAtRest.idle {s t : State} (h : HeadsAtRest s t) (g : HeadId) : (t.head g).cycle = .idle ∧ t.sound g := by
  obtain ⟨hhead, hout, -⟩ := h
  have hc : (t.head g).cycle = .idle := by rw [hhead g]; rfl
  refine ⟨hc, (State.sound_idle hc).mpr ?_⟩
  rw [hhead g, hout g]
  exact ⟨rfl, rfl, rfl, rfl⟩

/-- A mode outside CLEANING and CALIBRATION has both service units idle. -/
theorem CleaningFitsMode.of_modes {s t : State} (hs : CleaningFitsMode s) (hcleaning : t.cleaning = s.cleaning)
    (hm : s.mode ≠ .cleaning) (ht : t.mode ≠ .cleaning) : CleaningFitsMode t := by
  unfold CleaningFitsMode at *
  rw [hcleaning]
  simpa [hm, ht] using hs

theorem CalibrationFitsMode.of_modes {s t : State} (hs : CalibrationFitsMode s) (hcal : t.cal = s.cal)
    (hm : s.mode ≠ .calibration) (ht : t.mode ≠ .calibration) : CalibrationFitsMode t := by
  unfold CalibrationFitsMode at *
  rw [hcal]
  simpa [hm, ht] using hs

/-! ### An operation at one head -/

/-- An operation that acts at one head, and elsewhere on nothing that the law reads. -/
structure ActsAt (h : HeadId) (s t : State) : Prop where
  mode : t.mode = s.mode
  cleaning : t.cleaning = s.cleaning
  cal : t.cal = s.cal
  profiles : t.profiles = s.profiles
  others : ∀ g, g ≠ h → t.head g = s.head g ∧ t.output g = s.output g

namespace ActsAt
variable {h : HeadId} {s t u : State}

theorem trans (h₁ : ActsAt h s t) (h₂ : ActsAt h t u) : ActsAt h s u where
  mode := h₂.mode.trans h₁.mode
  cleaning := h₂.cleaning.trans h₁.cleaning
  cal := h₂.cal.trans h₁.cal
  profiles := h₂.profiles.trans h₁.profiles
  others g hg := ⟨(h₂.others g hg).1.trans (h₁.others g hg).1, (h₂.others g hg).2.trans (h₁.others g hg).2⟩

theorem of_takes (ht : HeadTakes h s t) : ActsAt h s t where
  mode := by rw [ht.frame]
  cleaning := by rw [ht.frame]
  cal := by rw [ht.frame]
  profiles := by rw [ht.frame]
  others := ht.others

theorem enter (s : State) (h : HeadId) (c : CycleState) (tm : Option Timer) : ActsAt h s (s.enter h c tm) :=
  of_takes (.enter s h c tm)

theorem goIdle (s : State) (h : HeadId) : ActsAt h s (s.goIdle h) := of_takes (.goIdle s h)

theorem putOutput (s : State) (h : HeadId) (x : HeadOutputs) : ActsAt h s (s.putOutput h x) :=
  of_takes (.putOutput s h x)

theorem updHead (s : State) (h : HeadId) (f : Head → Head) : ActsAt h s (s.updHead h f) :=
  ⟨rfl, rfl, rfl, rfl, fun g hg => ⟨by simp [hg], rfl⟩⟩

theorem reportFill {c : FillContext} (hc : (s.head h).fill = some c) (v : Verdict) :
    ActsAt h s (s.reportFill h v) := by
  have honly := OnlyHead.reportFill hc v
  exact ⟨by rw [honly.2], by rw [honly.2], by rw [honly.2], by rw [honly.2], honly.1⟩

/-- The law survives an operation at one head that leaves this head sound, in a state the mode allows. -/
theorem headsLaw (ha : ActsAt h s t) (hs : HeadsLaw s) (hallows : s.allows h (t.head h).cycle) (hsound : t.sound h) :
    HeadsLaw t := by
  obtain ⟨hclean, hcal, -⟩ := (headsLaw_iff s).mp hs
  have congr := State.allows_congr ha.mode ha.cleaning ha.cal
  refine (headsLaw_iff t).mpr ⟨?_, ?_, fun g => ?_⟩
  · unfold CleaningFitsMode at *; rwa [ha.mode, ha.cleaning]
  · unfold CalibrationFitsMode at *; rwa [ha.mode, ha.cal]
  · by_cases e : g = h
    · subst e; exact ⟨(congr g _).mpr hallows, hsound⟩
    · obtain ⟨hhead, hout⟩ := ha.others g e
      have hprofile := State.profileOf_congr ha.profiles (congrArg Head.profile hhead)
      refine ⟨(congr g _).mpr (hhead ▸ hs.allows g), State.sound_congr ?_ ?_ ?_ ?_ ?_ ?_ (hs.sound g)⟩
      · rw [hhead]
      · rw [hhead]
      · rw [hhead]
      · rw [hout]
      · rw [hout]
      · rw [hprofile]

end ActsAt

/-! ### Leaving flight -/

theorem endDraining_headsLaw {s : State} (hm : s.mode = .draining) (hs : HeadsLaw s) : HeadsLaw s.endDraining := by
  obtain ⟨hclean, hcal, -⟩ := (headsLaw_iff s).mp hs
  have hd := s.endDraining_spec
  have hmode : s.endDraining.mode = .standby := by rw [hd.2]
  refine .of_idle (hclean.of_modes (by rw [hd.2]) ?_ ?_) (hcal.of_modes (by rw [hd.2]) ?_ ?_) hd.1.idle <;>
    simp [hm, hmode]

theorem judgeDrain_headsLaw {s : State} (hs : HeadsLaw s) : HeadsLaw s.judgeDrain := by
  unfold State.judgeDrain
  split
  · next hend => exact endDraining_headsLaw hend.1 hs
  · exact hs

theorem goIdle_headsLaw {s : State} (hs : HeadsLaw s) (h : HeadId) : HeadsLaw (s.goIdle h) :=
  (ActsAt.goIdle s h).headsLaw hs (by simpa [Head.cleared] using s.allows_idle h) (s.sound_goIdle h)

theorem leaveToIdle_headsLaw {s : State} (hs : HeadsLaw s) (h : HeadId) : HeadsLaw (s.leaveToIdle h) :=
  judgeDrain_headsLaw (goIdle_headsLaw hs h)

/-- A head takes a new state with its timer. -/
theorem enter_headsLaw {s : State} (hs : HeadsLaw s) {h : HeadId} {c : CycleState} {tm : Option Timer}
    (hallows : s.allows h c) (hfill : (s.head h).fill.isSome = c.holdsFill)
    (htimer : ({ s.head h with cycle := c, timer := tm } : Head).timerFits (s.output h).vent) :
    HeadsLaw (s.enter h c tm) :=
  (ActsAt.enter s h c tm).headsLaw hs (by simpa using hallows) (State.sound_enter.mpr ⟨hfill, htimer⟩)

/-- A context may be replaced by another at a head that has one. -/
theorem refill_headsLaw {s : State} (hs : HeadsLaw s) {h : HeadId} (hf : (s.head h).fill.isSome = true)
    (c : FillContext) : HeadsLaw (s.updHead h fun x => { x with fill := some c }) := by
  have hself : (s.updHead h fun x => { x with fill := some c }).head h = { s.head h with fill := some c } := by simp
  refine (ActsAt.updHead s h _).headsLaw hs (by rw [hself]; exact hs.allows h)
    (State.sound_congr (s := s) ?_ ?_ ?_ rfl rfl ?_ (hs.sound h))
  · rw [hself]
  · rw [hself]
  · rw [hself]; exact hf.symm
  · exact congrArg _ (State.profileOf_congr (s := s) rfl (by rw [hself]))

/-! ### Fills -/

theorem isSome_of_fill {x : Head} {c : FillContext} (hc : x.fill = some c) : x.fill.isSome = true := by rw [hc]; rfl

/-- A head in a fill state other than its own abort has no vent. -/
theorem HeadsLaw.vent_of_fill {s : State} (hs : HeadsLaw s) {h : HeadId} (hf : (s.head h).fill.isSome = true) :
    (s.output h).vent = false :=
  (hs.sound h).vent fun e => by have := (hs.sound h).1; rw [hf, e] at this; cases this

theorem enterClosing_headsLaw {s : State} (hs : HeadsLaw s) (h : HeadId) (late : Bool) :
    HeadsLaw (s.enterClosing h late) := by
  unfold State.enterClosing
  split
  · exact hs
  · next c hc =>
    have hf := isSome_of_fill hc
    have hu := refill_headsLaw hs hf { c with
      duration := fillDuration s.clock c.startTime
      flags := { c.flags with late := c.flags.late || late } }
    refine enter_headsLaw hu (hu.allows_fill (by simp) rfl) (by simp; rfl) ⟨rfl, ?_⟩
    rw [State.output_updHead]; exact hs.vent_of_fill hf

theorem abortFill_headsLaw {s : State} (hs : HeadsLaw s) (hm : s.mode ≠ .calibration) (h : HeadId) (v : Verdict) :
    HeadsLaw (s.abortFill h v) := by
  unfold State.abortFill
  split
  · exact hs
  · next c hc =>
    have hfilling := (hs.filling (isSome_of_fill hc)).resolve_right fun hcal => hm hcal.1
    refine judgeDrain_headsLaw
      ((((ActsAt.reportFill hc v).trans (.putOutput _ h _)).trans (.enter _ h _ _)).headsLaw hs ?_
      (State.sound_enter.mpr ⟨?_, ?_⟩))
    · rw [State.head_enter, if_pos rfl, State.allows_filling hfilling]
      exact ⟨by simp, by simp⟩
    · rw [State.head_putOutput, State.head_reportFill hc, if_pos rfl]; rfl
    · rw [State.output_putOutput, if_pos rfl]
      unfold Head.timerFits
      dsimp only
      split
      · next hz => exact .inr ⟨rfl, by simp [hz]⟩
      · next hz => exact .inl ⟨rfl, by simp [hz]⟩

theorem endFill_headsLaw {s : State} (hs : HeadsLaw s) (h : HeadId) (v : Verdict) : HeadsLaw (s.endFill h v) := by
  unfold State.endFill
  cases hc : (s.head h).fill with
  | none =>
    have e : s.reportFill h v = s := by unfold State.reportFill; rw [hc]
    rw [e]; exact leaveToIdle_headsLaw hs h
  | some c =>
    refine judgeDrain_headsLaw (((ActsAt.reportFill hc v).trans (.goIdle _ h)).headsLaw hs ?_ (State.sound_goIdle _ h))
    rw [State.head_goIdle, if_pos rfl]
    exact s.allows_idle h

/-- A calibration run ends at its head and CU stays in the calibration (R156, R157). -/
theorem endRun_headsLaw {s : State} (hs : HeadsLaw s) (hm : s.mode = .calibration) (h : HeadId) (o : CalOutcome)
    {u : CalState} (hu : u ≠ .idle) : HeadsLaw (s.endRun h o u) := by
  cases hc : (s.head h).fill with
  | none =>
    have e : s.endRun h o u = s := by unfold State.endRun; rw [hc]
    rw [e]; exact hs
  | some c =>
    obtain ⟨hclean, hcal, -⟩ := (headsLaw_iff s).mp hs
    have hrun : s.cal.head = some h ∧ s.cal.state = .dosing := by
      rcases hs.filling (isSome_of_fill hc) with hf | hf
      · rw [State.fillingMode_iff, hm] at hf; simp at hf
      · exact hf.2
    have hidle := goIdle_headsLaw hs h
    have hrest : ∀ g, ((s.goIdle h).head g).cycle = .idle := by
      intro g
      rw [State.head_goIdle]
      split
      · rfl
      · next e =>
        have hallows := hs.allows g
        unfold State.allows at hallows
        rw [hm] at hallows
        exact hallows.resolve_right fun hg => e (Option.some.inj (hg.1.symm.trans hrun.1))
    have e : s.endRun h o u = { s.goIdle h with cal := { s.cal with state := u, last := some (runResult h o c) } } := by
      unfold State.endRun; rw [hc]
    rw [e]
    refine .of_idle ?_ ?_ fun g => ⟨hrest g, hidle.sound g⟩
    · exact ((headsLaw_iff _).mp hidle).1
    · obtain ⟨-, -, htarget⟩ := hcal
      have hstate : s.cal.state ≠ .idle := by rw [hrun.2]; decide
      refine ⟨?_, fun hi => absurd hi hu, fun _ => htarget hstate⟩
      simp [hu, hm]

theorem afterRun_runOutcome (c : FillContext) : afterRun (runOutcome c) ≠ .idle := by
  unfold runOutcome
  split
  · decide
  · split <;> decide

theorem finishSnift_headsLaw {s : State} (hs : HeadsLaw s) (h : HeadId) : HeadsLaw (s.finishSnift h) := by
  cases hc : (s.head h).fill with
  | none =>
    have e : s.finishSnift h = s := by unfold State.finishSnift; rw [hc]
    rw [e]; exact hs
  | some c =>
    by_cases hm : s.mode = .calibration
    · rw [State.finishSnift_calibration hc hm]
      exact endRun_headsLaw hs hm h _ (afterRun_runOutcome c)
    · have hf := isSome_of_fill hc
      have hfilling := (hs.filling hf).resolve_right fun hcal => hm hcal.1
      have e : s.finishSnift h = (s.reportFill h (volumeVerdict (s.recipe c.slot) c)).leaveFlight h .done none := by
        unfold State.finishSnift; rw [hc]; simp only [hm, if_false]
      rw [e]
      have hout : ∀ v, (s.reportFill h v).output h = s.output h := fun v => by rw [State.reportFill_eq hc]; rfl
      refine judgeDrain_headsLaw (((ActsAt.reportFill hc _).trans (.enter _ h _ _)).headsLaw hs ?_
        (State.sound_enter.mpr ⟨?_, ⟨rfl, ?_⟩⟩))
      · rw [State.head_enter, if_pos rfl, State.allows_filling hfilling]
        exact ⟨by simp, by simp⟩
      · rw [State.head_reportFill hc, if_pos rfl]; rfl
      · rw [hout]; exact hs.vent_of_fill hf

theorem learn_headsLaw {s : State} (hs : HeadsLaw s) (h : HeadId) (c : FillContext) : HeadsLaw (s.learn h c) := by
  rw [(s.learn_spec h c).1]; exact hs.elsewhere

theorem finishSettle_headsLaw {s : State} (hs : HeadsLaw s) (h : HeadId) : HeadsLaw (s.finishSettle h) := by
  unfold State.finishSettle
  split
  · exact hs
  · next c hc =>
    have hf := isSome_of_fill hc
    have key : ∀ t : State, HeadsLaw t → (t.head h).fill.isSome = true →
        HeadsLaw (if (s.recipe c.slot).sniftDwell = 0 then t.finishSnift h
          else t.enter h .snift (some ⟨.sniftDwell, (s.recipe c.slot).sniftDwell⟩)) := by
      intro t ht htf
      split
      · exact finishSnift_headsLaw ht h
      · exact enter_headsLaw ht (ht.allows_fill htf rfl) htf ⟨rfl, ht.vent_of_fill htf⟩
    dsimp only
    refine key _ ?_ ?_
    · split
      · exact hs
      · refine refill_headsLaw (learn_headsLaw hs h c) ?_ _
        rw [(s.learn_spec h c).1]; exact hf
    · split
      · exact hf
      · simp

theorem head_endVent (s : State) (h g : HeadId) :
    (s.endVent h).head g = if g = h then { s.head h with timer := none } else s.head g := by
  unfold State.endVent; simp

theorem output_endVent (s : State) (h g : HeadId) : (s.endVent h).output g = if g = h then
    derived s.drive (s.profileOf h) { s.head h with timer := none } { s.output h with vent := false }
      else s.output g := by
  unfold State.endVent State.setVent
  by_cases hg : g = h <;> simp [State.profileOf, hg]

theorem endVent_headsLaw {s : State} (hs : HeadsLaw s) {h : HeadId} (hc : (s.head h).cycle = .aborted) :
    HeadsLaw (s.endVent h) := by
  have hself := (head_endVent s h h).trans (if_pos rfl)
  have hout := (output_endVent s h h).trans (if_pos rfl)
  have hprofile : (s.endVent h).profileOf h = s.profileOf h := State.profileOf_congr rfl (by rw [hself])
  have acts : ActsAt h s (s.endVent h) := ⟨rfl, rfl, rfl, rfl, fun g hg =>
    ⟨(head_endVent s h g).trans (if_neg hg), (output_endVent s h g).trans (if_neg hg)⟩⟩
  refine acts.headsLaw hs (by rw [hself]; exact hs.allows h) ?_
  obtain ⟨hfill, -, -⟩ := hs.sound h
  refine ⟨by rw [hself]; exact hfill, ?_, ?_⟩
  · rw [hself, hout, derived_eq]
    unfold Head.timerFits
    dsimp only
    rw [hc]
    exact .inr ⟨rfl, rfl⟩
  · rw [hself, hout, hprofile, derived_eq]

end Sys2Proof.Machine
end

section
/-! SUPPORT. The law of the heads through the events of the part: contacts, arrivals, scans, halts and cleaning. -/

namespace Sys2Proof.Machine

/-! ### PRESSURIZE entry and the start of a pass -/

/-- PRESSURIZE entry at a head with a slot and without a vent leaves it sound, in a state of a fill. -/
theorem enterPressurize_sound {s : State} {h : HeadId} {k : SlotId} (hw : (s.head h).windowSlot = some k)
    (hv : (s.output h).vent = false) :
    (s.enterPressurize h).sound h ∧ ((s.enterPressurize h).head h).cycle.holdsFill = true := by
  obtain ⟨hframe, hhead, -⟩ := s.adopt_spec h
  have hactive : ((s.adopt h).head h).active = some k := by
    rw [hhead, if_pos rfl]
    rcases windowSlot_eq_some.mp hw with hp | ⟨hp, ha⟩
    · simp [hp]
    · simp [hp, ha]
  have hvent : ((s.adopt h).output h).vent = false := by rw [hframe]; exact hv
  unfold State.enterPressurize
  simp only [hactive]
  split
  · exact ⟨State.sound_enter.mpr ⟨by simp; rfl, ⟨rfl, hvent⟩⟩, by simp; rfl⟩
  · exact ⟨State.sound_enter.mpr ⟨by simp; rfl, ⟨rfl, hvent⟩⟩, by simp; rfl⟩

/-- In PRODUCTION and DRAINING a head without a vent may begin its fill. -/
theorem enterPressurize_headsLaw {s : State} (hs : HeadsLaw s) (hm : s.fillingMode = true) {h : HeadId}
    (hv : (s.output h).vent = false) : HeadsLaw (s.enterPressurize h) := by
  cases hw : (s.head h).windowSlot with
  | none => rw [enterPressurize_none hw]; exact hs
  | some k =>
    obtain ⟨hsound, hholds⟩ := enterPressurize_sound hw hv
    refine (ActsAt.of_takes (.enterPressurize s h)).headsLaw hs ((State.allows_filling hm h _).mpr ?_) hsound
    constructor <;> (intro e; rw [e] at hholds; cases hholds)

theorem windowSlot_none {x : Head} (h : (x.active.isNone && x.pendingSlot.isNone) = true) : x.windowSlot = none := by
  simp only [Bool.and_eq_true, Option.isNone_iff_eq_none] at h
  unfold Head.windowSlot; rw [h.2]; exact h.1

theorem windowSlot_some {x : Head} (h : ¬ (x.active.isNone && x.pendingSlot.isNone) = true) :
    ∃ k, x.windowSlot = some k := by
  unfold Head.windowSlot
  cases hp : x.pendingSlot with
  | some p => exact ⟨p, rfl⟩
  | none =>
    cases ha : x.active with
    | some k => exact ⟨k, rfl⟩
    | none => simp [hp, ha] at h

/-- Contact seen may be written. -/
theorem updSeen_headsLaw {s : State} (hs : HeadsLaw s) (h : HeadId) (b : Bool) :
    HeadsLaw (s.updHead h fun x => { x with contactSeen := b }) := by
  have hself : ∀ g, ∃ c,
      (s.updHead h fun x => { x with contactSeen := b }).head g = { s.head g with contactSeen := c } := by
    intro g
    rw [State.head_updHead]
    split
    · next e => subst e; exact ⟨b, rfl⟩
    · exact ⟨_, rfl⟩
  refine hs.of_sound (fun g => ?_) fun g => State.sound_congr (s := s) ?_ ?_ ?_ rfl rfl ?_
  all_goals obtain ⟨c, e⟩ := hself g
  · rw [e]
  · rw [e]
  · rw [e]
  · rw [e]
  · exact congrArg _ (State.profileOf_congr (s := s) rfl (by rw [e]))

theorem beginPass_headsLaw {s : State} (hs : HeadsLaw s) (hm : s.fillingMode = true) {h : HeadId}
    (hc : (s.head h).cycle = .idle) : HeadsLaw (s.beginPass h) := by
  obtain ⟨hfill, -, hvent, -⟩ := (State.sound_idle hc).mp (hs.sound h)
  unfold State.beginPass
  dsimp only
  split
  · refine enter_headsLaw (updSeen_headsLaw hs h _) ?_ (by simp [hfill]; rfl) ⟨rfl, hvent⟩
    exact (State.allows_filling (s := s.updHead h _) hm h _).mpr ⟨by decide, by decide⟩
  · split
    · exact enterPressurize_headsLaw hs hm hvent
    · split
      · exact enter_headsLaw hs ((State.allows_filling hm h _).mpr ⟨by decide, by decide⟩) (by rw [hfill]; rfl)
          ⟨rfl, hvent⟩
      · exact hs

/-! ### Arrivals -/

theorem infeed_headsLaw {s : State} (hs : HeadsLaw s) (hm : s.fillingMode = true) (h : HeadId) :
    HeadsLaw (s.infeed h) := by
  unfold State.infeed
  split
  · next hc => exact beginPass_headsLaw hs hm hc
  · exact beginPass_headsLaw (goIdle_headsLaw hs h) (by unfold State.fillingMode at *; simpa using hm)
      (by simp [Head.cleared])
  all_goals exact hs

theorem reportSkipped_headsLaw {s : State} (hs : HeadsLaw s) (h : HeadId) : HeadsLaw (s.reportSkipped h) := by
  unfold State.reportSkipped
  dsimp only
  split
  · rw [State.reportUnfilled_eq, State.fileReport_eq]; exact hs.elsewhere
  · exact hs

theorem discharge_headsLaw {s : State} (hs : HeadsLaw s) (h : HeadId) : HeadsLaw (s.discharge h) := by
  unfold State.discharge
  cases (s.head h).cycle with
  | waitBottle => exact leaveToIdle_headsLaw hs h
  | skip => exact goIdle_headsLaw (reportSkipped_headsLaw hs h) h
  | pressurize | fillSoft | fillFast | fillTopUp | closing | snift => exact endFill_headsLaw hs h _
  | done | aborted => exact goIdle_headsLaw hs h
  | idle | cleanOpen | cleanPause => exact hs

theorem takeArrival_headsLaw {s : State} (hs : HeadsLaw s) (a : Arrival) : HeadsLaw (s.takeArrival a) := by
  unfold State.takeArrival
  split
  · next hm =>
    rw [State.producing_eq_fillingMode] at hm
    split
    · exact infeed_headsLaw hs hm _
    · unfold State.latestClose
      split
      · exact enterClosing_headsLaw hs _ true
      · exact hs
    · exact discharge_headsLaw hs _
  · exact hs

theorem stepForward_headsLaw {s : State} (hs : HeadsLaw s) : HeadsLaw s.stepForward := by
  unfold State.stepForward
  dsimp only
  split
  · exact hs.elsewhere
  · split
    · exact List.foldlRecOn _ _ hs.elsewhere fun u hu a _ => takeArrival_headsLaw hu a
    · exact hs.elsewhere

/-! ### Halts -/

/-- A halt leaves every head at rest and both service units idle (R139). -/
theorem HaltedFrom.headsLaw {s t : State} (ht : HaltedFrom s t) (hs : HeadsLaw s) : HeadsLaw t := by
  obtain ⟨⟨hphase, hresult, htimer, -⟩, ⟨hcal, hidle, -⟩, -⟩ := (headsLaw_iff s).mp hs
  obtain ⟨hrest, hframe⟩ := ht
  refine .of_idle ?_ ?_ hrest.idle
  · rw [hframe]
    unfold CleaningFitsMode
    dsimp only
    split
    · next hp =>
      have hm : s.mode ≠ .cleaning := fun hm => hphase.mpr hm hp
      simpa [hm, hp] using And.intro (hresult.not.mpr hm) (by simpa [hm] using htimer)
    · simp
  · rw [hframe]
    unfold CalibrationFitsMode
    dsimp only
    split
    · simp
    · next hm =>
      have hstate := hcal.mpr hm
      simpa [hstate] using hidle hstate

theorem haltAll_headsLaw {s : State} (hs : HeadsLaw s) : HeadsLaw s.haltAll :=
  (State.haltAll_spec ((headsLaw_iff s).mp hs).2.1 fun _ => hs).headsLaw hs

theorem faultTracker_headsLaw {s : State} (hs : HeadsLaw s) : HeadsLaw s.faultTracker := by
  obtain ⟨hclean, hcal, -⟩ := (headsLaw_iff s).mp hs
  have halted : ∀ t : State, t.mode = .halted → t.cleaning = s.cleaning → t.cal = s.cal → s.mode ≠ .cleaning →
      s.mode ≠ .calibration → (∀ g, (t.head g).cycle = .idle ∧ t.sound g) → HeadsLaw t :=
    fun t hm hc hl h₁ h₂ hidle => .of_idle (hclean.of_modes hc h₁ (by rw [hm]; decide))
      (hcal.of_modes hl h₂ (by rw [hm]; decide)) hidle
  have filling : s.fillingMode = true → HeadsLaw s.faultTracker := by
    intro hm
    obtain ⟨hrest, hframe⟩ := State.faultTracker_filling hm
    rw [State.fillingMode_iff] at hm
    refine halted _ (by rw [hframe]) (by rw [hframe]) (by rw [hframe]) ?_ ?_ hrest.idle
    · rcases hm with hm | hm <;> rw [hm] <;> decide
    · rcases hm with hm | hm <;> rw [hm] <;> decide
  cases hm : s.mode with
  | standby =>
    rw [State.faultTracker_standby hm]
    have idle : ∀ g, (s.head g).cycle = .idle := fun g => by
      have := hs.allows g; unfold State.allows at this; rwa [hm] at this
    exact halted _ rfl rfl rfl (by rw [hm]; decide) (by rw [hm]; decide) fun g => ⟨idle g, hs.sound g⟩
  | production | draining => exact filling (s.fillingMode_iff.mpr (by simp [hm]))
  | halted | cleaning | calibration => rw [State.faultTracker_held (by simp [hm])]; exact hs.elsewhere

theorem stepBackward_headsLaw {s : State} (hs : HeadsLaw s) : HeadsLaw s.stepBackward := by
  unfold State.stepBackward
  dsimp only
  split
  · exact faultTracker_headsLaw hs.elsewhere
  · exact hs.elsewhere

theorem markIndex_headsLaw {s : State} (hs : HeadsLaw s) : HeadsLaw s.markIndex := by
  have hstepped := stepForward_headsLaw hs
  unfold State.markIndex
  generalize s.stepForward = t at hstepped ⊢
  split
  · exact hstepped.elsewhere
  · unfold State.checkIndex
    dsimp only
    split
    · exact hstepped.elsewhere
    · split
      · exact faultTracker_headsLaw hstepped.elsewhere
      · exact hstepped.elsewhere

/-- A derivation of terminals leaves open sets and vents (R109). -/
theorem output_dropTerminals (s : State) (h : HeadId) :
    s.dropTerminals.output h = { s.output h with terminals := Outputs.allOff } := vector_ofFn_get _ _

theorem output_deriveTerminalsWhere (s : State) (p : Head → Bool) (h : HeadId) :
    ∃ o, (s.deriveTerminalsWhere p).output h = { s.output h with terminals := o } := by
  have e : (s.deriveTerminalsWhere p).output h = if p (s.head h) then
        { s.output h with terminals := terminalsOf s.drive (s.profileOf h) (s.output h).opened }
      else s.output h := vector_ofFn_get _ _
  rw [e]
  split <;> exact ⟨_, rfl⟩

/-- Terminals may be written. -/
theorem HeadsLaw.terminals {s t : State} (hs : HeadsLaw s) (hheads : t.heads = s.heads)
    (hout : ∀ h, ∃ o, t.output h = { s.output h with terminals := o }) (hprofiles : t.profiles = s.profiles)
    (hmode : t.mode = s.mode) (hcleaning : t.cleaning = s.cleaning) (hcal : t.cal = s.cal) : HeadsLaw t := by
  have hhead : ∀ h, t.head h = s.head h := fun h => by unfold State.head; rw [hheads]
  refine hs.of_sound (fun h => by rw [hhead]) (fun h => ?_) hmode hcleaning hcal
  obtain ⟨o, e⟩ := hout h
  refine State.sound_congr (by rw [hhead]) (by rw [hhead]) (by rw [hhead]) (by rw [e]) (by rw [e]) ?_
  rw [State.profileOf_congr hprofiles (by rw [hhead])]

theorem dropTerminals_headsLaw {s : State} (hs : HeadsLaw s) : HeadsLaw s.dropTerminals :=
  hs.terminals (by simp) (fun h => ⟨_, output_dropTerminals s h⟩) (by simp) (by simp) (by simp) (by simp)

theorem deriveTerminalsWhere_headsLaw {s : State} (hs : HeadsLaw s) (p : Head → Bool) :
    HeadsLaw (s.deriveTerminalsWhere p) :=
  hs.terminals (by simp) (output_deriveTerminalsWhere s p) (by simp) (by simp) (by simp) (by simp)

theorem losePower_headsLaw {s : State} (hs : HeadsLaw s) : HeadsLaw s.losePower := by
  have dropped := dropTerminals_headsLaw hs
  unfold State.losePower
  generalize s.dropTerminals = t at dropped ⊢
  exact haltAll_headsLaw dropped.elsewhere

theorem regainPower_headsLaw {s : State} (hs : HeadsLaw s) : HeadsLaw s.regainPower := by
  unfold State.regainPower
  exact deriveTerminalsWhere_headsLaw hs.elsewhere _

/-! ### Contacts -/

theorem HeadsLaw.idle_of_armed {s : State} (hs : HeadsLaw s) (hm : s.mode = .calibration) (ha : s.cal.state ≠ .dosing)
    (h : HeadId) : (s.head h).cycle = .idle := by
  have hallows := hs.allows h
  unfold State.allows at hallows
  rw [hm] at hallows
  exact hallows.resolve_right fun hd => ha hd.2.1

/-- The start of a run (R154): the armed head takes up a fill, every other head stays in IDLE. -/
theorem startRun_headsLaw {s : State} (hs : HeadsLaw s) (hm : s.mode = .calibration) {h : HeadId}
    (ha : s.cal.state = .armed) (hh : s.cal.head = some h) : HeadsLaw (s.startRun h) := by
  unfold State.startRun
  split
  · exact hs
  · next hslots =>
    obtain ⟨k, hw⟩ := windowSlot_some hslots
    have idle := hs.idle_of_armed hm (by rw [ha]; decide)
    obtain ⟨hsound, hholds⟩ := enterPressurize_sound hw ((hs.sound h).vent (by rw [idle]; decide))
    have acts := ActsAt.of_takes (.enterPressurize s h)
    have hdosing : HeadsLaw { s with cal := { s.cal with state := .dosing } } := by
      obtain ⟨hclean, ⟨-, -, hset⟩, -⟩ := (headsLaw_iff s).mp hs
      refine .of_idle hclean ⟨?_, fun hi => ?_, fun _ => hset (by rw [ha]; decide)⟩ fun g => ⟨idle g, hs.sound g⟩
      · simp [hm]
      · cases hi
    generalize s.enterPressurize h = t at hsound hholds acts ⊢
    have acts' : ActsAt h { s with cal := { s.cal with state := .dosing } }
        { t with cal := { s.cal with state := .dosing } } :=
      ⟨acts.mode, acts.cleaning, rfl, acts.profiles, acts.others⟩
    refine acts'.headsLaw hdosing ?_ hsound
    unfold State.allows
    simp only [hm, true_and]
    exact .inr ⟨hh, hholds⟩

theorem contactCame_headsLaw {s : State} (hs : HeadsLaw s) (h : HeadId) : HeadsLaw (s.contactCame h) := by
  unfold State.contactCame
  split
  · next hm =>
    split
    · next ha => exact startRun_headsLaw hs hm ha.1 ha.2
    · exact hs
  · next hm =>
    split
    · next hc =>
      have hvent := (hs.sound h).vent (by rw [hc]; decide)
      have hfill : (s.head h).fill.isSome = false := (hs.sound h).1.trans (by rw [hc]; rfl)
      have hfilling : s.fillingMode = true := by
        have hallows := hs.allows h
        rw [hc] at hallows
        rw [State.fillingMode_iff]
        unfold State.allows at hallows
        cases hmode : s.mode <;> simp [hmode, CycleState.holdsFill, CycleState.isFillStage] at hallows hm ⊢
        split at hallows <;> simp at hallows
      split
      · refine judgeDrain_headsLaw (enter_headsLaw (updSeen_headsLaw hs h true) ?_ ?_ ⟨rfl, hvent⟩)
        · exact (State.allows_filling (s := s.updHead h _) hfilling h _).mpr ⟨by decide, by decide⟩
        · rw [State.head_updHead, if_pos rfl]; exact hfill
      · exact enterPressurize_headsLaw hs hfilling hvent
    · exact updSeen_headsLaw hs h true
    all_goals exact hs

theorem burst_headsLaw {s : State} (hs : HeadsLaw s) (h : HeadId) : HeadsLaw (s.burst h) := by
  unfold State.burst
  split
  · next hm => exact endRun_headsLaw hs hm h _ (by decide)
  · next hm => exact abortFill_headsLaw hs hm h _

theorem contactWent_headsLaw {s : State} (hs : HeadsLaw s) (h : HeadId) : HeadsLaw (s.contactWent h) := by
  unfold State.contactWent
  cases (s.head h).cycle with
  | pressurize | fillSoft | fillFast | fillTopUp | closing => exact burst_headsLaw hs h
  | snift =>
    dsimp only
    split
    · next hm => exact endRun_headsLaw hs hm h _ (by decide)
    · exact endFill_headsLaw hs h _
  | _ => exact hs

/-! ### The scan -/

theorem fill_of_laneWork {s : State} {h : HeadId} {w : LaneWork} (hw : s.laneWork h = some w) :
    (s.head h).fill.isSome = true := by
  unfold State.laneWork at hw
  cases hf : (s.head h).fill with
  | none => rw [hf] at hw; cases hw
  | some c => rfl

theorem fill_of_decision {s : State} {h : HeadId} (hd : s.decision h ≠ .stay) : (s.head h).fill.isSome = true := by
  unfold State.decision at hd
  cases hw : s.laneWork h with
  | none => rw [hw] at hd; exact absurd rfl hd
  | some w => exact fill_of_laneWork hw

theorem isSome_meteredHead (s : State) (h : HeadId) : (s.meteredHead h).fill.isSome = (s.head h).fill.isSome := by
  unfold State.meteredHead
  split
  · next w hw => exact (fill_of_laneWork hw).symm
  · rfl

/-- DE's work on a bank changes no head but for the content of its context. -/
theorem head_scanLanes_fill (s : State) (b : BankId) (g : HeadId) :
    ∃ f, (s.scanLanes b).head g = { s.head g with fill := f } ∧ f.isSome = (s.head g).fill.isSome := by
  rw [head_scanLanes]
  split
  · exact ⟨_, meteredHead_eq s g, isSome_meteredHead s g⟩
  · exact ⟨_, rfl, rfl⟩

theorem scanLanes_frame (s : State) (b : BankId) : ∃ lanes heads counters, s.scanLanes b =
    { s with lanes := lanes, heads := heads, cleaning := { s.cleaning with counters := counters } } := ⟨_, _, _, rfl⟩

theorem scanLanes_headsLaw {s : State} (hs : HeadsLaw s) (b : BankId) : HeadsLaw (s.scanLanes b) := by
  obtain ⟨hclean, hcal, -⟩ := (headsLaw_iff s).mp hs
  have hself := head_scanLanes_fill s b
  obtain ⟨lanes, heads, counters, hframe⟩ := scanLanes_frame s b
  rw [hframe] at hself ⊢
  refine (headsLaw_iff _).mpr ⟨hclean, hcal, fun g => ?_⟩
  obtain ⟨f, e, hf⟩ := hself g
  refine ⟨by rw [e]; exact hs.allows g, State.sound_congr (s := s) ?_ ?_ ?_ rfl rfl ?_ (hs.sound g)⟩
  · rw [e]
  · rw [e]
  · rw [e]; exact hf
  · exact congrArg _ (State.profileOf_congr (s := s) rfl (by rw [e]))

/-- The heads with a fill context in `s` have one in `t`. -/
def FillsStay (s t : State) : Prop := ∀ g, (s.head g).fill.isSome = true → (t.head g).fill.isSome = true

theorem scanLanes_fillsStay (s : State) (b : BankId) : FillsStay s (s.scanLanes b) := by
  intro g hg
  obtain ⟨f, e, hf⟩ := head_scanLanes_fill s b g
  rw [e]; exact hf.trans hg

/-- A close or a change of stage at a head with a fill: the law and every context stay. -/
theorem takeDecision_headsLaw {s : State} (hs : HeadsLaw s) {h : HeadId} {d : Decision} (hd : d ≠ .abortStuck)
    (hf : d ≠ .stay → (s.head h).fill.isSome = true) :
    HeadsLaw (s.takeDecision d h) ∧ FillsStay s (s.takeDecision d h) := by
  have stage : ∀ c : CycleState, c.isFillStage = true → (s.head h).fill.isSome = true →
      HeadsLaw (s.enter h c none) ∧ FillsStay s (s.enter h c none) := by
    intro c hc hf
    have hholds : c.holdsFill = true := by unfold CycleState.holdsFill; rw [hc]; rfl
    refine ⟨enter_headsLaw hs (hs.allows_fill hf hholds) (hf.trans hholds.symm) ?_, fun g hg => ?_⟩
    · have hvent := hs.vent_of_fill hf
      unfold Head.timerFits
      revert hc
      cases c <;> simp [CycleState.isFillStage, hvent]
    · rw [State.head_enter]
      split
      · exact hf
      · exact hg
  cases d with
  | stay => exact ⟨hs, fun _ => id⟩
  | close =>
    refine ⟨enterClosing_headsLaw hs h false, fun g hg => ?_⟩
    obtain ⟨c, hc⟩ := Option.isSome_iff_exists.mp (hf (by decide))
    obtain ⟨honly, hself, -⟩ := State.enterClosing_spec hc false
    show ((s.enterClosing h false).head g).fill.isSome = true
    by_cases e : g = h
    · subst e; rw [hself]; rfl
    · rw [honly.head_ne e]; exact hg
  | toTopUp => exact stage .fillTopUp rfl (hf (by decide))
  | toFast => exact stage .fillFast rfl (hf (by decide))
  | abortStuck => exact absurd rfl hd

theorem stuckAbort_headsLaw {s : State} (hs : HeadsLaw s) (h : HeadId) : HeadsLaw (s.stuckAbort h) := by
  unfold State.stuckAbort
  split
  · next hm => exact endRun_headsLaw hs hm h _ (by decide)
  · next hm => exact abortFill_headsLaw hs hm h _

theorem scanBank_headsLaw {s : State} (hs : HeadsLaw s) (b : BankId) : HeadsLaw (s.scanBank b) := by
  have moved : HeadsLaw ((s.movedBy b).foldl (fun t h => t.takeDecision (s.decision h) h) (s.scanLanes b)) ∧
      FillsStay s ((s.movedBy b).foldl (fun t h => t.takeDecision (s.decision h) h) (s.scanLanes b)) := by
    refine List.foldlRecOn (motive := fun t => HeadsLaw t ∧ FillsStay s t) _ _
      ⟨scanLanes_headsLaw hs b, scanLanes_fillsStay s b⟩ fun t ht h hh => ?_
    have hd : s.decision h ≠ .abortStuck := by simpa using (List.mem_filter.mp hh).2
    obtain ⟨hlaw, hstay⟩ := takeDecision_headsLaw ht.1 hd fun hne => ht.2 h (fill_of_decision hne)
    exact ⟨hlaw, fun g hg => hstay g (ht.2 g hg)⟩
  unfold State.scanBank
  exact List.foldlRecOn _ _ moved.1.elsewhere fun t ht h _ => stuckAbort_headsLaw ht h

/-! ### Cleaning -/

theorem HeadsLaw.cleaning_idle {s : State} (hs : HeadsLaw s) (hm : s.mode = .cleaning) (h : HeadId) :
    s.sound h ∧ (s.head h).fill = none ∧ (s.output h).vent = false ∧
      (s.cleaning.driven[h] = false → (s.head h).cycle = .idle) := by
  have hallows := hs.allows h
  unfold State.allows at hallows
  rw [hm] at hallows
  have hcycle : (s.head h).cycle = .idle ∨ (s.head h).cycle = .cleanOpen ∨ (s.head h).cycle = .cleanPause := by
    rcases hallows with hc | ⟨-, hc⟩
    · exact .inl hc
    · split at hc
      · exact .inr (.inl hc)
      · exact .inr (.inr hc)
  refine ⟨hs.sound h, ?_, (hs.sound h).vent ?_, fun hd => hallows.resolve_right fun hc => ?_⟩
  · have := (hs.sound h).1
    rcases hcycle with hc | hc | hc <;> rw [hc] at this <;>
      simpa [CycleState.holdsFill, CycleState.isFillStage] using this
  · rcases hcycle with hc | hc | hc <;> rw [hc] <;> decide
  · rw [hd] at hc; cases hc.1

/-- The driven heads take the cleaning state of the phase; the others are idle (R163 to R165). -/
theorem driveTo_headsLaw {s : State} {c : CycleState} (hclean : CleaningFitsMode s) (hcal : CalibrationFitsMode s)
    (hm : s.mode = .cleaning) (hheads : ∀ h, s.sound h ∧ (s.head h).fill = none ∧ (s.output h).vent = false ∧
      (s.cleaning.driven[h] = false → (s.head h).cycle = .idle))
    (hc : c = if s.cleaning.phase = .openPhase then .cleanOpen else .cleanPause) : HeadsLaw (s.driveTo c) := by
  obtain ⟨hframe, hat⟩ := s.driveTo_spec c
  have quiet : ∀ g,
      (s.driveTo c).sound g ∧ ((s.driveTo c).head g).fill = none ∧ ((s.driveTo c).output g).vent = false := by
    refine List.foldlRecOn
      (motive := fun t : State => ∀ g, t.sound g ∧ (t.head g).fill = none ∧ (t.output g).vent = false)
      _ _ (fun g => ⟨(hheads g).1, (hheads g).2.1, (hheads g).2.2.1⟩) fun t ht h _ g => ?_
    by_cases e : g = h
    · subst e
      obtain ⟨-, hfill, hvent⟩ := ht g
      refine ⟨State.sound_enter.mpr ?_, by simpa using hfill, by simpa using hvent⟩
      rw [hc, hfill]
      split <;> exact ⟨rfl, rfl, hvent⟩
    · obtain ⟨hhead, hout⟩ := (ActsAt.enter t h c none).others g e
      obtain ⟨hsound, hfill, hvent⟩ := ht g
      refine ⟨State.sound_congr (s := t) ?_ ?_ ?_ ?_ ?_ ?_ hsound, by rw [hhead]; exact hfill,
        by rw [hout]; exact hvent⟩
      · rw [hhead]
      · rw [hhead]
      · rw [hhead]
      · rw [hout]
      · rw [hout]
      · rw [State.profileOf_enter]
  generalize s.driveTo c = t at hframe hat quiet ⊢
  have hmode : t.mode = s.mode := by rw [hframe]
  have hcleaning : t.cleaning = s.cleaning := by rw [hframe]
  have hcalt : t.cal = s.cal := by rw [hframe]
  refine (headsLaw_iff t).mpr ⟨?_, ?_, fun g => ⟨?_, (quiet g).1⟩⟩
  · unfold CleaningFitsMode at *; rwa [hmode, hcleaning]
  · unfold CalibrationFitsMode at *; rwa [hmode, hcalt]
  · rw [State.allows_congr hmode hcleaning hcalt, (hat g).1]
    split
    · next hd =>
      unfold State.allows
      rw [hm]
      exact .inr ⟨hd, hc⟩
    · next hd =>
      rw [(hheads g).2.2.2 (by simpa using hd)]
      exact s.allows_idle g

/-- The driven heads go to IDLE, where the others are. -/
theorem releaseDriven_idle {s : State} (hs : HeadsLaw s) (hm : s.mode = .cleaning) :
    HeadsLaw s.releaseDriven ∧ ∀ g, (s.releaseDriven.head g).cycle = .idle := by
  obtain ⟨-, hat⟩ := s.releaseDriven_spec
  refine ⟨List.foldlRecOn _ _ hs fun t ht h _ => goIdle_headsLaw ht h, fun g => ?_⟩
  rw [(hat g).1]
  split
  · rfl
  · next hd => exact (hs.cleaning_idle hm g).2.2.2 (by simpa using hd)

/-- A cleaning run that is over, in any mode that follows one (R165, R167). -/
theorem cleaningOver_headsLaw {s : State} (hs : HeadsLaw s) (hm : s.mode = .cleaning) {r : CleaningResult}
    (hr : r ≠ .running) {m : Mode} (h₁ : m ≠ .cleaning) (h₂ : m ≠ .calibration) :
    HeadsLaw { s.releaseDriven with cleaning := s.cleaning.over r, mode := m } := by
  obtain ⟨hlaw, hidle⟩ := releaseDriven_idle hs hm
  have hcal := ((headsLaw_iff _).mp hlaw).2.1
  have hmode : s.releaseDriven.mode = .cleaning := by rw [(s.releaseDriven_spec).1]; exact hm
  generalize s.releaseDriven = t at hlaw hidle hcal hmode ⊢
  refine .of_idle ?_ ?_ fun g => ⟨hidle g, hlaw.sound g⟩
  · unfold CleaningFitsMode Cleaning.over
    simp [h₁, hr]
  · exact hcal.of_modes rfl (by rw [hmode]; decide) h₂

theorem afterService_modes (s : State) : s.afterService ≠ .cleaning ∧ s.afterService ≠ .calibration := by
  unfold State.afterService; split <;> decide

theorem endCycle_headsLaw {s : State} (hs : HeadsLaw s) (hm : s.mode = .cleaning) (plan : CleaningPlan) :
    HeadsLaw (s.endCycle plan) := by
  obtain ⟨⟨hphase, hresult, htimer, hplan⟩, hcal, -⟩ := (headsLaw_iff s).mp hs
  unfold State.endCycle State.nextCycle State.completeCleaning
  split
  · refine driveTo_headsLaw ⟨?_, hresult, ?_, hplan⟩ hcal hm (hs.cleaning_idle hm) rfl
    · simp [hm]
    · simp [hm]
  · exact cleaningOver_headsLaw hs hm (by decide) (afterService_modes s).1 (afterService_modes s).2

/-- The counts and marks of an open phase are not read by the law. -/
theorem countOpen_headsLaw {s : State} (hs : HeadsLaw s) : HeadsLaw { s with cleaning := s.cleaning.countOpen } := hs

theorem endOpenPhase_headsLaw {s : State} (hs : HeadsLaw s) (hm : s.mode = .cleaning) (plan : CleaningPlan) :
    HeadsLaw (s.endOpenPhase plan) := by
  have hcounted := countOpen_headsLaw hs
  obtain ⟨⟨hphase, hresult, htimer, hplan⟩, hcal, -⟩ := (headsLaw_iff _).mp hcounted
  unfold State.endOpenPhase
  dsimp only
  split
  · exact endCycle_headsLaw hcounted hm plan
  · refine driveTo_headsLaw ⟨?_, hresult, ?_, hplan⟩ hcal hm (hcounted.cleaning_idle hm) rfl
    · simp [hm]
    · simp [hm]

end Sys2Proof.Machine
end

section
/-! PROPERTY. The law of the heads (R22, R107, R135) through every request, reset and event. -/

namespace Sys2Proof.Machine

/-! ### Requests -/

theorem HeadsLaw.idle_of_configurable {s : State} (hs : HeadsLaw s) (hm : s.mode.configurable = true) (h : HeadId) :
    (s.head h).cycle = .idle := by
  have hallows := hs.allows h
  unfold State.allows at hallows
  cases hmode : s.mode with
  | standby | halted => rwa [hmode] at hallows
  | _ => rw [hmode] at hm; cases hm

/-- In STANDBY and HALTED a head's profile, or the profile itself, may be written with its terminals (R18, R105). -/
theorem HeadsLaw.reconfigured {s t : State} (hs : HeadsLaw s) (hm : s.mode.configurable = true)
    (hhead : ∀ g, ∃ p f, t.head g = { s.head g with profile := p, factor := f })
    (hout : ∀ g, ∃ o, t.output g = { s.output g with terminals := o }) (hmode : t.mode = s.mode)
    (hcleaning : t.cleaning = s.cleaning) (hcal : t.cal = s.cal) : HeadsLaw t := by
  have idle := hs.idle_of_configurable hm
  refine hs.of_sound (fun g => ?_) (fun g hg => ?_) hmode hcleaning hcal
  · obtain ⟨p, f, e⟩ := hhead g
    rw [e]
  · obtain ⟨p, f, e⟩ := hhead g
    obtain ⟨o, eo⟩ := hout g
    rw [State.sound_idle (by rw [e]; exact idle g), e, eo]
    exact (State.sound_idle (idle g)).mp hg

/-- Static fields other than the profile may be written at every head. -/
theorem HeadsLaw.static {s t : State} (hs : HeadsLaw s)
    (hhead : ∀ g, ∃ e f a p n, t.head g =
      { s.head g with enable := e, factor := f, active := a, pendingSlot := p, faults := n })
    (hout : t.outputs = s.outputs) (hprofiles : t.profiles = s.profiles) (hmode : t.mode = s.mode)
    (hcleaning : t.cleaning = s.cleaning) (hcal : t.cal = s.cal) : HeadsLaw t := by
  have hsame : ∀ g, t.output g = s.output g := fun g => by unfold State.output; rw [hout]
  refine hs.of_sound (fun g => ?_) (fun g => ?_) hmode hcleaning hcal
  · obtain ⟨e, f, a, p, n, hg⟩ := hhead g
    rw [hg]
  · obtain ⟨e, f, a, p, n, hg⟩ := hhead g
    refine State.sound_congr ?_ ?_ ?_ (by rw [hsame]) (by rw [hsame]) ?_
    · rw [hg]
    · rw [hg]
    · rw [hg]
    · rw [State.profileOf_congr hprofiles (by rw [hg])]

theorem bindHead_headsLaw {s : State} (hs : HeadsLaw s) (target : Option SlotId) (h : HeadId) :
    HeadsLaw (bindHead target s h) := by
  obtain ⟨a, p, e, -⟩ := bindHead_cases target s h
  rw [e]
  refine hs.static (fun g => ?_) (by simp) (by simp) (by simp) (by simp) (by simp)
  rw [State.head_assignSlots]
  split
  · next eg => subst eg; exact ⟨_, _, _, _, _, rfl⟩
  · exact ⟨_, _, _, _, _, rfl⟩

theorem setEnable_headsLaw {s : State} (hs : HeadsLaw s) (mask : HeadMask) {f : Head → Head}
    (hf : ∀ x, f x = { x with enable := (f x).enable, faults := (f x).faults }) : HeadsLaw (s.setEnable mask f) := by
  refine hs.static (fun g => ?_) (by simp) (by simp) (by simp) (by simp) (by simp)
  rw [State.head_setEnable]
  split
  · rw [hf]; exact ⟨_, _, _, _, _, rfl⟩
  · exact ⟨_, _, _, _, _, rfl⟩

/-- A mode whose heads are all idle may be entered from one that has them idle, the service units idle in both. -/
theorem HeadsLaw.setMode {s t : State} (hs : HeadsLaw s) (hidle : ∀ g, (s.head g).cycle = .idle)
    (hm : s.mode ≠ .cleaning ∧ s.mode ≠ .calibration) (ht : t.mode ≠ .cleaning ∧ t.mode ≠ .calibration)
    (hheads : t.heads = s.heads := by rfl) (houtputs : t.outputs = s.outputs := by rfl)
    (hcleaning : t.cleaning = s.cleaning := by rfl) (hcal : t.cal = s.cal := by rfl) : HeadsLaw t := by
  obtain ⟨hclean, hcalibrate, -⟩ := (headsLaw_iff s).mp hs
  have hhead : ∀ g, t.head g = s.head g := fun g => by unfold State.head; rw [hheads]
  have hout : ∀ g, t.output g = s.output g := fun g => by unfold State.output; rw [houtputs]
  refine .of_idle (hclean.of_modes hcleaning hm.1 ht.1) (hcalibrate.of_modes hcal hm.2 ht.2) fun g => ?_
  have hc : (t.head g).cycle = .idle := by rw [hhead]; exact hidle g
  refine ⟨hc, (State.sound_idle hc).mpr ?_⟩
  rw [hhead, hout]
  exact (State.sound_idle (hidle g)).mp (hs.sound g)

/-- START PRODUCTION from STANDBY or DRAINING (R136). -/
theorem startProduction_headsLaw {s : State} (hs : HeadsLaw s) (hm : s.mode = .standby ∨ s.mode = .draining)
    (tr : Tracker) : HeadsLaw { s with mode := .production, tracker := tr } := by
  rcases hm with hm | hm
  · exact hs.setMode (hs.idle_of_configurable (by rw [hm]; rfl)) (by rw [hm]; decide) ⟨by simp, by simp⟩
  · obtain ⟨hclean, hcal, -⟩ := (headsLaw_iff s).mp hs
    refine (headsLaw_iff _).mpr ⟨hclean.of_modes rfl (by rw [hm]; decide) (by simp),
      hcal.of_modes rfl (by rw [hm]; decide) (by simp), fun g => ⟨?_, hs.sound g⟩⟩
    have hallows := hs.allows g
    unfold State.allows at hallows ⊢
    rw [hm] at hallows
    exact hallows

/-- STOP in PRODUCTION, before the end of DRAINING is judged (R137). -/
theorem drain_headsLaw {s : State} (hs : HeadsLaw s) (hm : s.mode = .production) : HeadsLaw (s.setMode .draining) := by
  obtain ⟨hclean, hcal, -⟩ := (headsLaw_iff s).mp hs
  refine (headsLaw_iff _).mpr ⟨hclean.of_modes rfl (by rw [hm]; decide) (by simp),
    hcal.of_modes rfl (by rw [hm]; decide) (by simp), fun g => ⟨?_, hs.sound g⟩⟩
  have hallows := hs.allows g
  unfold State.allows at hallows ⊢
  rw [hm] at hallows
  exact hallows

/-- START CLEANING (R163). -/
theorem startCleaning_headsLaw {s : State} (hs : HeadsLaw s) (hm : s.mode = .standby) {c : Cleaning}
    (hphase : c.phase = .openPhase) (hresult : c.result = .running) (htimer : c.timer.isSome = true)
    (hplan : c.plan.isSome = true) :
    HeadsLaw (State.driveTo .cleanOpen { s with cleaning := c, mode := .cleaning }) := by
  have idle := hs.idle_of_configurable (by rw [hm]; rfl)
  obtain ⟨-, hcal, -⟩ := (headsLaw_iff s).mp hs
  refine driveTo_headsLaw ⟨?_, ?_, ?_, fun _ => hplan⟩ (hcal.of_modes rfl (by rw [hm]; decide) (by simp)) rfl
    (fun g => ?_) ?_
  · simp [hphase]
  · simp [hresult]
  · simp [htimer]
  · obtain ⟨hfill, -, hvent, -⟩ := (State.sound_idle (idle g)).mp (hs.sound g)
    exact ⟨hs.sound g, hfill, hvent, fun _ => idle g⟩
  · simp [hphase]

/-- START CALIBRATION (R153). -/
theorem startCalibration_headsLaw {s : State} (hs : HeadsLaw s) (hm : s.mode = .standby) (h : HeadId) {target : Nat}
    (ht : between 10000 3000000 target = true) : HeadsLaw { s with
      cal := { s.cal with head := some h, target := some target, state := .armed }
      mode := .calibration } := by
  have idle := hs.idle_of_configurable (by rw [hm]; rfl)
  obtain ⟨hclean, -, -⟩ := (headsLaw_iff s).mp hs
  simp only [between, Bool.and_eq_true, decide_eq_true_eq] at ht
  refine .of_idle (hclean.of_modes rfl (by rw [hm]; decide) (by simp)) ⟨by simp, fun hi => ?_, fun _ => ?_⟩
    fun g => ⟨idle g, hs.sound g⟩
  · cases hi
  · exact ⟨rfl, target, rfl, ht⟩

/-- An accepted actual volume: the run's head is at rest, so its factor may change (R158). -/
theorem enterActualVolume_headsLaw {s : State} (hs : HeadsLaw s) (hm : s.mode = .calibration)
    (hc : s.cal.state = .awaitActual) (h : HeadId) (new : Nat) (last : CalResult) :
    HeadsLaw { s.updHead h (fun x => { x with factor := new }) with
      cal := { s.cal with state := .armed, last := some last } } := by
  have idle := hs.idle_of_armed hm (by rw [hc]; decide)
  have hwritten : HeadsLaw (s.updHead h fun x => { x with factor := new }) := by
    refine hs.static (fun g => ?_) rfl rfl rfl rfl rfl
    rw [State.head_updHead]
    split
    · next e => subst e; exact ⟨_, _, _, _, _, rfl⟩
    · exact ⟨_, _, _, _, _, rfl⟩
  have hidle : ∀ g, ((s.updHead h fun x => { x with factor := new }).head g).cycle = .idle := by
    intro g
    rw [State.head_updHead]
    split
    · exact idle h
    · exact idle g
  obtain ⟨hclean, ⟨-, -, hset⟩, -⟩ := (headsLaw_iff s).mp hs
  refine .of_idle hclean ⟨?_, fun hi => ?_, fun _ => hset (by rw [hc]; decide)⟩ fun g => ⟨hidle g, hwritten.sound g⟩
  · simp [hm]
  · cases hi

/-- The end of a calibration (R159): the run's head to rest, CU in IDLE. -/
theorem endCalibration_headsLaw {s : State} (hs : HeadsLaw s) (hm : s.mode = .calibration) {m : Mode}
    (h₁ : m ≠ .cleaning) (h₂ : m ≠ .calibration) : HeadsLaw (s.endCalibration.setMode m) := by
  obtain ⟨hclean, hcal, -⟩ := (headsLaw_iff s).mp hs
  obtain ⟨hframe, hat⟩ := s.endCalibration_spec
  have idle : ∀ g, (s.endCalibration.head g).cycle = .idle := by
    intro g
    obtain ⟨-, hcycle, hrun⟩ := hat g
    have hallows := hs.allows g
    unfold State.allows at hallows
    rw [hm] at hallows
    rcases hallows with hi | ⟨hhead, hdosing, hholds⟩
    · rcases hcycle with hc | hc
      · exact hc
      · rw [hc]; exact hi
    · exact hrun hdosing hhead ((hs.sound g).1.trans hholds)
  have sound : ∀ g, s.endCalibration.sound g := by
    have abandoned : ∀ g, s.abandonRun.sound g := by
      unfold State.abandonRun
      split
      · next h _ =>
        split
        · unfold State.endRun
          split
          · exact hs.sound
          · exact (goIdle_headsLaw hs h).sound
        · exact hs.sound
      · exact hs.sound
    exact abandoned
  generalize s.endCalibration = t at hframe idle sound ⊢
  refine .of_idle ?_ ?_ fun g => ⟨idle g, sound g⟩
  · exact hclean.of_modes (by rw [State.setMode_cleaning, hframe]) (by rw [hm]; decide) h₁
  · have hcal' : (t.setMode m).cal = ⟨none, none, .idle, s.resultCut⟩ := by rw [State.setMode_cal, hframe]
    unfold CalibrationFitsMode
    rw [hcal']
    simp [h₂]

theorem Served.keeps_headsLaw {s t : State} {i : Instr} (h : Served s i t) (hs : HeadsLaw s) : HeadsLaw t := by
  cases h with
  | setValveProfile k p hm =>
    refine hs.reconfigured hm (fun g => ⟨(s.head g).profile, (s.head g).factor, ?_⟩) (fun g => ?_) (by simp) (by simp)
      (by simp)
    · unfold State.head; rw [State.deriveTerminalsWhere_heads]
    · exact output_deriveTerminalsWhere { s with profiles := s.profiles.set k p } _ g
  | setHead h p hm hf hz =>
    refine hs.reconfigured hm (fun g => ?_) (fun g => ?_) (by simp) (by simp) (by simp)
    · rw [State.head_deriveTerminals, State.head_updHead]
      split
      · next e => subst e; exact ⟨_, _, rfl⟩
      · exact ⟨_, _, rfl⟩
    · unfold State.deriveTerminals
      rw [State.output_putOutput]
      split
      · next e => subst e; exact ⟨_, rfl⟩
      · exact ⟨_, rfl⟩
  | enableHeads mask hf => exact setEnable_headsLaw hs mask fun _ => rfl
  | disableHeads mask => exact setEnable_headsLaw hs mask fun _ => rfl
  | loadRecipe k r hb hr => rw [clearColumn_eq]; exact hs.elsewhere
  | unloadRecipe k hb => rw [clearColumn_eq]; exact hs.elsewhere
  | bindRecipe mask target hk =>
    exact bindMask_keeps (P := HeadsLaw) (fun u h hu => bindHead_headsLaw hu target h) mask hs
  | restoreCorrections k values hm hk => rw [State.dropReservationOn_eq]; exact hs.elsewhere
  | startProduction hm hr => exact startProduction_headsLaw hs hm _
  | drain hm => exact judgeDrain_headsLaw (drain_headsLaw hs hm)
  | stopCleaning hm =>
    exact cleaningOver_headsLaw hs hm (by decide) (afterService_modes s).1 (afterService_modes s).2
  | halt broadcast => exact haltAll_headsLaw hs
  | clearHalt hm hv tracker ht =>
    exact hs.setMode (hs.idle_of_configurable (by rw [hm]; rfl)) (by rw [hm]; decide) ⟨by simp, by simp⟩
  | startCleaning openTime pauseTime cycles hm hp => exact startCleaning_headsLaw hs hm rfl rfl rfl rfl
  | startCalibration h target hm ht hf ha => exact startCalibration_headsLaw hs hm h ht
  | enterActualVolume volume h run last new hm hc hh hl hn => exact enterActualVolume_headsLaw hs hm hc h new last
  | endCalibration hm => exact endCalibration_headsLaw hs hm (afterService_modes s).1 (afterService_modes s).2
  | _ => exact hs.elsewhere

/-! ### Resets and the step -/

theorem afterReset_modes (b : Bool) : Mode.afterReset b ≠ .cleaning ∧ Mode.afterReset b ≠ .calibration := by
  unfold Mode.afterReset; split <;> decide

/-- A reset leaves the service units idle. -/
theorem HeadsLaw.of_reset {t : State} {b : Bool} (hm : t.mode = Mode.afterReset b)
    (hcleaning : t.cleaning = Cleaning.cleared) (hcal : t.cal = Calibration.cleared)
    (hidle : ∀ g, (t.head g).cycle = .idle ∧ t.sound g) : HeadsLaw t := by
  obtain ⟨h₁, h₂⟩ := afterReset_modes b
  refine .of_idle ?_ ?_ hidle
  · unfold CleaningFitsMode
    rw [hcleaning, hm]
    simp [Cleaning.cleared, h₁]
  · unfold CalibrationFitsMode
    rw [hcal, hm]
    simp [Calibration.cleared, h₂]

theorem powerOnWith_headsLaw (pins : Pins) (s : State) : HeadsLaw (s.powerOnWith pins) := by
  refine .of_reset (b := pins.valvePower) rfl rfl rfl fun g => ?_
  have hc : ((s.powerOnWith pins).head g).cycle = .idle := by rw [head_powerOnWith]; rfl
  have hout : (s.powerOnWith pins).output g = ⟨Outputs.allOff, false, Outputs.allOff⟩ := by
    show (Vector.replicate 64 (⟨Outputs.allOff, false, Outputs.allOff⟩ : HeadOutputs))[g] = _; simp
  refine ⟨hc, (State.sound_idle hc).mpr ?_⟩
  rw [head_powerOnWith, hout]
  exact ⟨rfl, rfl, rfl, rfl⟩

theorem output_restart (s : State) (g : HeadId) : s.restart.output g =
    derived s.drive (s.profileOf g) (s.head g).restarted { s.output g with vent := false } := vector_ofFn_get _ _

theorem restart_headsLaw (s : State) : HeadsLaw s.restart := by
  refine .of_reset (b := s.pins.valvePower) rfl rfl rfl fun g => ?_
  have hc : (s.restart.head g).cycle = .idle := by rw [head_restart]; rfl
  refine ⟨hc, (State.sound_idle hc).mpr ?_⟩
  rw [head_restart, output_restart, derived_eq]
  exact ⟨rfl, rfl, rfl, rfl⟩

theorem times_iff {x : Head} {c : CycleState} {k : TimerKind} :
    x.times c k = true ↔ x.cycle = c ∧ x.timer.map Timer.kind = some k := by
  unfold Head.times; simp

theorem Effect.keeps_headsLaw {fits : Prop} {s t : State} (he : Effect fits s t) (hs : HeadsLaw s) : HeadsLaw t := by
  have cleaning : s.cleaning.phase ≠ .idle → s.mode = .cleaning := ((headsLaw_iff s).mp hs).1.1.mp
  cases he with
  | none => exact hs
  | request i hi => exact (answerRequest_served i s).keeps_headsLaw hs
  | halt => exact haltAll_headsLaw hs
  | forward => exact stepForward_headsLaw hs
  | backward => exact stepBackward_headsLaw hs
  | index => exact markIndex_headsLaw hs
  | quadrature => exact faultTracker_headsLaw hs
  | contactCame h => exact contactCame_headsLaw hs h
  | contactWent h => exact contactWent_headsLaw hs h
  | contactWindow h => exact leaveToIdle_headsLaw hs h
  | pressurizeDwell h ht =>
    have hf : (s.head h).fill.isSome = true := (hs.sound h).1.trans (by rw [(times_iff.mp ht).1]; rfl)
    exact enter_headsLaw hs (hs.allows_fill hf rfl) hf ⟨rfl, hs.vent_of_fill hf⟩
  | settle h => exact finishSettle_headsLaw hs h
  | sniftDwell h => exact finishSnift_headsLaw hs h
  | ventDwell h ht => exact endVent_headsLaw hs (times_iff.mp ht).1
  | tick => exact hs.elsewhere
  | pulse lanes => exact hs.elsewhere
  | scan b => exact scanBank_headsLaw hs b
  | openPhase plan hp => exact endOpenPhase_headsLaw hs (cleaning (by rw [hp]; decide)) plan
  | pausePhase plan hp => exact endCycle_headsLaw hs (cleaning (by rw [hp]; decide)) plan
  | powerLoss => exact losePower_headsLaw hs
  | powerReturn => exact regainPower_headsLaw hs
  | ready high => exact hs.elsewhere
  | powerOn pins => exact powerOnWith_headsLaw pins s
  | lineHeld => exact dropTerminals_headsLaw hs
  | restart => exact restart_headsLaw s

/-- Settles O58: every effect of a command leaves each head in a state of its mode, sound in it. -/
theorem stepKeepsTheHeadsLaw : Obligations.StepKeepsTheHeadsLaw := fun _ _ =>
  step_keeps (fun _ _ => id) fun hs he =>
    exec_keeps_of_effect (fun hc hu => by rw [hc]; exact hu) Effect.keeps_headsLaw hs he

end Sys2Proof.Machine
end

section
/-! PROPERTY. The requests on heads (R18 to R21), and the events that change one counter or level (R23, R46, R144). -/

namespace Sys2Proof.Machine

/-! ### Requests refused and accepted -/

/-- While LI listens, a request that its block refuses leaves the state and answers the status (R176, R179). -/
theorem transact_refused {s : State} (hs : s.listening = true) {code : Nat} {body : State → State × Answer}
    {st : Status} (hb : body s = refuse st s) : transact code body s = s.answered code st [] := by
  rw [transact_of_listening hs, hb]; rfl

/-- An accepted one leaves what its block leaves, and answers OK with the payload. -/
theorem transact_accepted {s t : State} (hs : s.listening = true) {code : Nat} {body : State → State × Answer}
    {p : List Byte} (hb : body s = accept p t) : transact code body s = t.answered code .ok p := by
  rw [transact_of_listening hs, hb]; rfl

theorem State.deriveTerminals_eq (s : State) (h : HeadId) : s.deriveTerminals h = { s with
    outputs := s.outputs.set h { s.output h with
      terminals := terminalsOf s.drive (s.profileOf h) (s.output h).opened } } := rfl

/-- SET HEAD accepted: the static part and the head's terminals (R18, R109). -/
theorem setHead_written (s : State) (h : HeadId) (p : ProfileId) (factor : Nat) :
    (s.updHead h fun x => { x with profile := p, factor := factor }).deriveTerminals h = { s with
      heads := s.heads.set h { s.head h with profile := p, factor := factor }
      outputs := s.outputs.set h { s.output h with
        terminals := terminalsOf s.drive s.profiles[p] (s.output h).opened } } := by
  have hp : (s.updHead h fun x => { x with profile := p, factor := factor }).profileOf h = s.profiles[p] := by
    unfold State.profileOf
    simp
  rw [State.deriveTerminals_eq, hp]
  rfl

/-- What SET HEAD refuses by its fields alone (R18). -/
theorem setHead_badField {s : State} (hm : s.mode.configurable = true) {head profile factor : Nat}
    (h : 63 < head ∨ 7 < profile ∨ (1 ≤ factor ∧ factor ≤ 199)) :
    setHead head profile factor s = refuse .badField s := by
  unfold setHead
  rw [if_pos hm]
  split
  · next g p hg hp =>
    have hhead : head < 64 := by
      by_contra hlt; rw [inRange?_ge (by omega)] at hg; cases hg
    have hprofile : profile < 8 := by
      by_contra hlt; rw [inRange?_ge (by omega)] at hp; cases hp
    have hfactor : factorAllowed factor = false := by
      unfold factorAllowed
      simp only [Bool.or_eq_false_iff, decide_eq_false_iff_not]
      omega
    rw [hfactor]; rfl
  · rfl

/-- Settles O17: SET HEAD by its refusals in order and by what it writes. -/
theorem setHeadWritesProfileAndFactor : Obligations.SetHeadWritesProfileAndFactor := by
  intro head profile factor s hs op
  have hop : op = .next (transact 0x06 (setHead head profile factor) s) := rfl
  rw [hop, idleMode_eq_configurable]
  refine ⟨fun hm => ?_, fun hm hbad => ?_, fun h hh hm => ⟨fun hz he => ?_, fun p hp hf => ?_⟩⟩
  · rw [transact_refused hs (st := .wrongMode)]
    unfold setHead
    rw [hm]; rfl
  · rw [transact_refused hs (setHead_badField hm hbad)]
  · rw [transact_refused hs (st := .badField)]
    subst hh hz
    unfold setHead
    rw [if_pos hm, inRange?_fin]
    split
    · next g p hg _ =>
      cases hg
      simp [factorAllowed, he]
    · rfl
  · subst hh hp
    rw [← setHead_written]
    refine congrArg _ (transact_accepted hs ?_)
    unfold setHead
    rw [if_pos hm, inRange?_fin, inRange?_fin]
    have hallowed :
        (factorAllowed factor && !(decide (factor = 0) && decide ((s.head h).enable ≠ .disabled))) = true := by
      rcases hf with hf | ⟨hz, he⟩
      · have : factor ≠ 0 := by omega
        simp [factorAllowed, hf, this]
      · simp [factorAllowed, hz, he]
    simp only [hallowed, if_true]

theorem namesBeyond_iff (mask : HeadMask) (s : State) : namesBeyond mask s = true ↔
    s.tracker.geometry.headCount ≠ 0 ∧
      ∃ h : HeadId, mask.getLsbD h.val = true ∧ s.tracker.geometry.headCount ≤ h.val := by
  unfold namesBeyond inMask
  simp

theorem anyIn_iff (s : State) (mask : HeadMask) (p : Head → Bool) :
    s.anyIn mask p = true ↔ ∃ h : HeadId, mask.getLsbD h.val = true ∧ p (s.head h) = true := by
  unfold State.anyIn inMask
  simp

/-- Settles O18: the refusals of ENABLE HEADS in the order of R19, and what both requests write. -/
theorem enableAndDisableHeads : Obligations.EnableAndDisableHeads := by
  intro mask s hs named beyond uncalibrated missing
  have henable : exec (.enableHeads mask) s = .next (transact 0x08 (enableHeads mask) s) := rfl
  have hbeyond : namesBeyond mask s = true ↔ beyond := namesBeyond_iff mask s
  have hfactor : s.anyIn mask (fun x => decide (x.factor = 0)) = true ↔ uncalibrated := by
    rw [anyIn_iff]; simp [uncalibrated, named]
  have hslots : (s.mode.producing && s.anyIn mask (fun x => x.active.isNone && x.pendingSlot.isNone)) = true ↔
      missing := by
    rw [Bool.and_eq_true, anyIn_iff, State.producing_eq_fillingMode]; simp [missing, named]
  rw [henable]
  refine ⟨fun hb => ?_, fun hb hu => ?_, fun hb hu hmiss => ?_, fun hb hu hmiss => ?_, ?_⟩
  · rw [transact_refused hs]
    unfold enableHeads
    rw [if_pos (hbeyond.mpr hb)]
  · rw [transact_refused hs]
    unfold enableHeads
    rw [if_neg (hbeyond.not.mpr hb), if_pos (hfactor.mpr hu)]
  · rw [transact_refused hs]
    unfold enableHeads
    rw [if_neg (hbeyond.not.mpr hb), if_neg (hfactor.not.mpr hu), if_pos (hslots.mpr hmiss)]
  · refine congrArg _ (transact_accepted hs ?_)
    unfold enableHeads
    rw [if_neg (hbeyond.not.mpr hb), if_neg (hfactor.not.mpr hu), if_neg (hslots.not.mpr hmiss)]
    rfl
  · exact congrArg _ (transact_accepted (body := disableHeads mask)
      (t := s.setEnable mask fun x => { x with enable := .disabled }) hs rfl)

/-! ### The head record -/

theorem length_leBytes (k n : Nat) : (leBytes k n).length = k := by
  induction k generalizing n with
  | zero => rfl
  | succ k ih => rw [leBytes, List.length_cons, ih]

theorem leNat_leBytes (k n : Nat) : leNat (leBytes k n) = n % 256 ^ k := by
  induction k generalizing n with
  | zero => simp [leBytes, leNat, Nat.mod_one]
  | succ k ih =>
    rw [leBytes, leNat, ih, BitVec.toNat_ofNat, Nat.pow_succ' (m := 256), Nat.mod_mul]

/-- The field that a payload begins with. -/
theorem fieldAt_leBytes (k n : Nat) (rest : List Byte) : fieldAt (leBytes k n ++ rest) 0 k = n % 256 ^ k := by
  unfold fieldAt
  rw [List.drop_zero, List.take_left' (length_leBytes k n), leNat_leBytes]

theorem fieldAt_leBytes_last (k n : Nat) : fieldAt (leBytes k n) 0 k = n % 256 ^ k := by
  simpa using fieldAt_leBytes k n []

/-- A field behind the first. -/
theorem fieldAt_skip {k o : Nat} (h : k ≤ o) (n size : Nat) (rest : List Byte) :
    fieldAt (leBytes k n ++ rest) o size = fieldAt rest (o - k) size := by
  unfold fieldAt
  rw [List.drop_append, length_leBytes, List.drop_eq_nil_of_le (by rw [length_leBytes]; exact h), List.nil_append]

theorem flags_testBit (f : FillFlags) :
    (f.code % 256).testBit 0 = f.late ∧ (f.code % 256).testBit 1 = f.overrange ∧
      (f.code % 256).testBit 2 = f.learned ∧ (f.code % 256).testBit 3 = f.outlier ∧
      (f.code % 256).testBit 4 = f.changeover := by
  obtain ⟨late, overrange, learned, outlier, changeover⟩ := f
  revert late overrange learned outlier changeover
  decide

theorem length_fillBytes (f : Option FillContext) : (fillBytes f).length = 10 := by
  cases f <;> simp [fillBytes, length_leBytes]

theorem length_headRecord (s : State) (h : HeadId) : (s.headRecord h).length = 22 := by
  simp [State.headRecord, length_leBytes, length_fillBytes]

/-- The field of one bit, for a condition. -/
theorem maskBit_field (b : Bool) : maskBit b 0 % 256 ^ 1 = b.toNat := by cases b <;> rfl

theorem slotCode_eq (k : Option SlotId) : slotCode k % 256 ^ 1 = (k.map Fin.val).getD 255 := by
  cases k with
  | none => rfl
  | some k => exact Nat.mod_eq_of_lt (lt_trans k.isLt (by decide))

/-- Each field of the head record is the one its offset begins with (R181). -/
theorem headRecord_fields (s : State) (h : HeadId) :
    let p := s.headRecord h
    let x := s.head h
    fieldAt p 0 1 = h.val % 256 ^ 1 ∧ fieldAt p 1 1 = x.enable.code % 256 ^ 1 ∧
      fieldAt p 2 1 = x.profile.val % 256 ^ 1 ∧ fieldAt p 3 2 = x.factor % 256 ^ 2 ∧
      fieldAt p 5 1 = slotCode x.active % 256 ^ 1 ∧ fieldAt p 6 1 = slotCode x.pendingSlot % 256 ^ 1 ∧
      fieldAt p 7 1 = x.faults % 256 ^ 1 ∧ fieldAt p 8 1 = x.cycle.code % 256 ^ 1 ∧
      fieldAt p 9 1 = maskBit (s.contact h) 0 % 256 ^ 1 ∧ fieldAt p 10 1 = maskBit x.contactSeen 0 % 256 ^ 1 ∧
      fieldAt p 11 1 = maskBit x.fill.isSome 0 % 256 ^ 1 ∧
      ∀ o size, 12 ≤ o → fieldAt p o size = fieldAt (fillBytes x.fill) (o - 12) size := by
  unfold State.headRecord
  simp only [List.append_assoc]
  refine ⟨fieldAt_leBytes _ _ _, ?_, ?_, ?_, ?_, ?_, ?_, ?_, ?_, ?_, ?_, fun o size ho => ?_⟩
  case refine_11 =>
    repeat rw [fieldAt_skip (by omega)]
    congr 1
  all_goals simp only [fieldAt_skip, fieldAt_leBytes, Nat.reduceLeDiff, Nat.reduceSub]

/-- The fields of a fill context in the record (R181). -/
theorem fillBytes_fields (c : FillContext) :
    let p := fillBytes (some c)
    fieldAt p 0 1 = c.slot.val ∧ (c.target ≤ 4294967295 → fieldAt p 1 4 = (c.target + 500) / 1000) ∧
      (c.delivered ≤ 4294967295 → fieldAt p 5 4 = (c.delivered + 500) / 1000) ∧
      (fieldAt p 9 1).testBit 0 = c.flags.late ∧ (fieldAt p 9 1).testBit 1 = c.flags.overrange ∧
      (fieldAt p 9 1).testBit 2 = c.flags.learned ∧ (fieldAt p 9 1).testBit 3 = c.flags.outlier ∧
      (fieldAt p 9 1).testBit 4 = c.flags.changeover := by
  simp only [fillBytes, List.append_assoc, fieldAt_skip, fieldAt_leBytes, fieldAt_leBytes_last, Nat.reduceLeDiff,
    Nat.reduceSub]
  refine ⟨Nat.mod_eq_of_lt (lt_trans c.slot.isLt (by decide)), fun h => Nat.mod_eq_of_lt ?_,
    fun h => Nat.mod_eq_of_lt ?_, flags_testBit c.flags⟩
  · unfold microlitres; omega
  · unfold microlitres; omega

/-- Settles O19: each field of the head record is the one its offset begins with. -/
theorem readHeadAnswersTheHeadRecord : Obligations.ReadHeadAnswersTheHeadRecord := by
  intro head s hs
  have hread : exec (.readHead head) s = .next (transact 0x07 (readHead head) s) := rfl
  rw [hread]
  refine ⟨fun hh => ?_, fun h hh => ⟨s.headRecord h, ?_, length_headRecord s h, ?_⟩⟩
  · rw [transact_refused hs]
    unfold readHead
    rw [inRange?_ge (by omega)]
  · refine congrArg _ (transact_accepted hs ?_)
    unfold readHead
    rw [hh, inRange?_fin]
  · intro x
    obtain ⟨e1, e2, e3, e4, e5, e6, e7, e8, e9, e10, e11, e12⟩ := headRecord_fields s h
    refine ⟨e1.trans (Nat.mod_eq_of_lt ?_), e3.trans (Nat.mod_eq_of_lt ?_), e2.trans ?_,
      fun hf => e4.trans (Nat.mod_eq_of_lt ?_), e5.trans (slotCode_eq _), e6.trans (slotCode_eq _),
      fun hf => e7.trans (Nat.mod_eq_of_lt ?_), e8.trans ?_, e9.trans (maskBit_field _),
      e10.trans (maskBit_field _), e11.trans (maskBit_field _), fun hx => ?_, fun c hx => ?_⟩
    · have := h.isLt; omega
    · have := (s.head h).profile.isLt; omega
    · show (s.head h).enable.code % 256 ^ 1 = _
      cases x.enable <;> rfl
    · exact lt_of_le_of_lt hf (by decide)
    · exact lt_of_le_of_lt hf (by decide)
    · show (s.head h).cycle.code % 256 ^ 1 = _
      cases x.cycle <;> rfl
    · rw [e12 12 1 (by decide), e12 13 9 (by decide), hx]
      decide
    · rw [e12 12 1 (by decide), e12 13 4 (by decide), e12 17 4 (by decide), e12 21 1 (by decide), hx]
      exact fillBytes_fields c

/-! ### Clock, pulses and the product-ready line -/

/-- Settles O27: each of the three events is one write. -/
theorem ticksPulsesAndReadyLine : Obligations.TicksPulsesAndReadyLine := by
  intro s hs
  refine ⟨?_, fun h => ?_, fun high => ?_⟩
  · exact congrArg _ (event_of_running hs _)
  · exact congrArg _ (event_of_running hs _)
  · exact congrArg _ (event_of_running (s := { s with pins := { s.pins with productReady := high } }) hs _)

end Sys2Proof.Machine
end

section
/-! PROPERTY. The head cycle in PRODUCTION and DRAINING: the timer expiries, contact arrival and contact loss
(R25 to R28, R31, R34 to R36, R39). -/

namespace Sys2Proof.Machine

/-! ### Timer expiries -/

/-- A timer that runs expires: its head acts (R22). -/
theorem onExpiry_running {s : State} (hs : s.running = true) {h : HeadId} {c : CycleState} {k : TimerKind}
    (hc : (s.head h).cycle = c) (hk : (s.head h).timer.map Timer.kind = some k) (act : State → State) :
    onExpiry c k h act s = act s :=
  (event_of_running hs _).trans (if_pos (times_iff.mpr ⟨hc, hk⟩))

/-- A timer that does not run has no expiry (R22, Log 9). -/
theorem onExpiry_stopped {s : State} {h : HeadId} (ht : (s.head h).timer = none) (c : CycleState) (k : TimerKind)
    (act : State → State) : onExpiry c k h act s = s := by
  have hn : ¬ (s.head h).times c k = true := by rw [times_iff, ht]; simp
  exact event_cases (P := (· = s)) _ rfl (if_neg hn)

theorem OnlyHead.endVent (h : HeadId) (s : State) : OnlyHead h s (s.endVent h) s :=
  .of_get (fun g hg => (head_endVent s h g).trans (if_neg hg))
    (fun g hg => (output_endVent s h g).trans (if_neg hg)) rfl

/-- A head that moves between two states in flight leaves the count. -/
theorem OnlyHead.enter_inFlight {s : State} {h : HeadId} (hold : (s.head h).cycle.inFlight = true) {c : CycleState}
    (hnew : c.inFlight = true) (tm : Option Timer) : OnlyHead h s (s.enter h c tm) s := by
  have := OnlyHead.enter h c tm s
  rw [hold, hnew] at this
  exact this

/-- Settles O23: each expiry is one transition of its head. -/
theorem dwellAndWindowExpiries : Obligations.DwellAndWindowExpiries := by
  intro h s hs
  refine ⟨fun hk hc ht => ?_, fun hc ht => ?_, fun hc ht => ?_, fun ht i hi => ?_⟩
  · obtain ⟨-, hk⟩ := State.keepsFilling_iff hk
    refine ⟨s.goIdle h, ?_, ?_, ?_, ?_⟩
    · exact congrArg _ ((onExpiry_running hs hc ht _).trans (State.leaveToIdle_eq hk))
    · have := OnlyHead.goIdle h s
      rw [hc] at this
      exact this
    · simp [Head.cleared, Head.atRest]
    · simp
  · refine ⟨s.enter h .fillSoft none, ?_, ?_, ?_, ?_⟩
    · exact congrArg _ (onExpiry_running hs hc ht _)
    · exact OnlyHead.enter_inFlight (by rw [hc]; rfl) rfl none
    · simp
    · simp [openSet, Outputs.allOff]
  · refine ⟨s.endVent h, ?_, OnlyHead.endVent h s, ?_, ?_, ?_⟩
    · exact congrArg _ (onExpiry_running hs hc ht _)
    · rw [head_endVent, if_pos rfl]
    · rw [output_endVent, if_pos rfl, derived_eq]
      simp [hc, openSet, Outputs.allOff]
    · rw [output_endVent, if_pos rfl, derived_eq]
  · simp only [List.mem_cons, List.not_mem_nil, or_false] at hi
    rcases hi with rfl | rfl | rfl | rfl | rfl <;> exact congrArg _ (onExpiry_stopped ht _ _ _)

/-! ### Contact loss -/

theorem exec_contactLoss {s : State} (hs : s.running = true) {h : HeadId} (hc : s.contact h = true) :
    exec (.contactLoss h) s = .next ((s.withContact h false).contactWent h) :=
  congrArg _ ((if_pos hc).trans (event_of_running (s := s.withContact h false) hs _))

theorem exec_contactArrival {s : State} (hs : s.running = true) {h : HeadId} (hc : s.contact h = false) :
    exec (.contactArrival h) s = .next ((s.withContact h true).contactCame h) :=
  congrArg _ ((if_neg (by rw [hc]; decide)).trans (event_of_running (s := s.withContact h true) hs _))

theorem CycleState.inFlight_of_holdsFill {c : CycleState} (h : c.holdsFill = true) : c.inFlight = true := by
  revert h; cases c <;> decide

/-- A head without a fill takes no notice of a contact loss. -/
theorem contactWent_of_noFill {s : State} {h : HeadId} (hc : (s.head h).cycle.holdsFill = false) :
    s.contactWent h = s := by
  unfold State.contactWent
  revert hc
  cases (s.head h).cycle <;> simp [CycleState.holdsFill, CycleState.isFillStage]

/-- In PRESSURIZE, a fill stage or CLOSING a production fill bursts (R28, R31, R35). -/
theorem contactWent_bursts {s : State} {h : HeadId} (hm : s.mode ≠ .calibration)
    (hc : (s.head h).cycle.holdsFill = true) (hn : (s.head h).cycle ≠ .snift) :
    s.contactWent h = s.abortFill h .burst := by
  have hb : s.burst h = s.abortFill h .burst := if_neg hm
  unfold State.contactWent
  rw [hb]
  revert hc hn
  cases (s.head h).cycle <;> simp [CycleState.holdsFill, CycleState.isFillStage]

theorem contactWent_shortSnift {s : State} {h : HeadId} (hm : s.mode ≠ .calibration)
    (hc : (s.head h).cycle = .snift) : s.contactWent h = s.endFill h .shortSnift := by
  unfold State.contactWent
  rw [hc]
  exact if_neg hm

/-- In CALIBRATION a contact loss at a head with a fill ends the run (R157). -/
theorem contactWent_calibration {s : State} {h : HeadId} (hm : s.mode = .calibration)
    (hc : (s.head h).cycle.holdsFill = true) : s.contactWent h = s.endRun h .abortedContact .armed := by
  have hb : s.burst h = s.endRun h .abortedContact .armed := if_pos hm
  unfold State.contactWent
  rw [hb, if_pos hm]
  revert hc
  cases (s.head h).cycle <;> simp [CycleState.holdsFill, CycleState.isFillStage]

/-- Settles O22: the abort and the end of a fill, at the state that has the new level; neither verdict counts. -/
theorem contactLossEndsTheFill : Obligations.ContactLossEndsTheFill := by
  intro h s hs hcontact x level
  rw [exec_contactLoss hs hcontact]
  refine ⟨fun hc => congrArg _ (contactWent_of_noFill hc), fun c hk hfill => ?_⟩
  intro dwell left
  refine ⟨fun hc hn => ?_, fun hc => ?_⟩
  · obtain ⟨hm, hk⟩ := State.keepsFilling_iff hk
    obtain ⟨honly, hhead, hopen, -⟩ := State.abortFill_spec (s := level) hfill .burst hk
    have hv : Verdict.burst = .shortSnift ∨ Verdict.burst = .burst ∨ Verdict.burst = .halted ∨
        Verdict.burst = .unfilled := by decide
    rw [countedHead_unchanged hv] at hhead
    rw [locksOut_unchanged hv, Bool.or_false, show (level.head h).cycle.inFlight = true from
      CycleState.inFlight_of_holdsFill hc] at honly
    exact ⟨_, congrArg _ (contactWent_bursts hm hc hn), honly, hhead, hopen⟩
  · obtain ⟨hm, hk⟩ := State.keepsFilling_iff hk
    obtain ⟨honly, hhead, hopen, -⟩ := State.endFill_spec (s := level) hfill .shortSnift hk
    have hv : Verdict.shortSnift = .shortSnift ∨ Verdict.shortSnift = .burst ∨ Verdict.shortSnift = .halted ∨
        Verdict.shortSnift = .unfilled := by decide
    rw [countedHead_unchanged hv] at hhead
    rw [locksOut_unchanged hv, Bool.or_false, show (level.head h).cycle = .snift from hc] at honly
    exact ⟨_, congrArg _ (contactWent_shortSnift hm hc), honly, hhead, hopen⟩

/-! ### Contact arrival -/

theorem mode_of_fillingMode {s : State} (hm : s.fillingMode = true) : s.mode ≠ .calibration := by
  rcases (State.fillingMode_iff s).mp hm with h | h <;> rw [h] <;> decide

/-- A waiting head with a slot begins its fill (R25, R27). -/
theorem contactCame_begins {s : State} {h : HeadId} (hm : s.mode ≠ .calibration)
    (hc : (s.head h).cycle = .waitBottle) {k : SlotId} (hw : (s.head h).windowSlot = some k) :
    s.contactCame h = s.enterPressurize h := by
  unfold State.contactCame
  rw [if_neg hm, hc]
  refine if_neg fun hn => ?_
  exact absurd ((windowSlot_none hn).symm.trans hw) (Option.some_ne_none k).symm

/-- A waiting head without a slot skips its bottle (R25). -/
theorem contactCame_skips {s : State} {h : HeadId} (hm : s.mode ≠ .calibration)
    (hc : (s.head h).cycle = .waitBottle) (ha : (s.head h).active = none) (hp : (s.head h).pendingSlot = none) :
    s.contactCame h = (s.updHead h fun x => { x with contactSeen := true }).leaveFlight h .skip none := by
  unfold State.contactCame
  rw [if_neg hm, hc]
  exact if_pos (by rw [ha, hp]; rfl)

theorem contactCame_skip {s : State} {h : HeadId} (hm : s.mode ≠ .calibration) (hc : (s.head h).cycle = .skip) :
    s.contactCame h = s.updHead h fun x => { x with contactSeen := true } := by
  unfold State.contactCame
  rw [if_neg hm, hc]

/-- Any other head takes no notice of a contact arrival (R22). -/
theorem contactCame_of_noWait {s : State} {h : HeadId} (hm : s.mode ≠ .calibration)
    (hw : (s.head h).cycle ≠ .waitBottle) (hs : (s.head h).cycle ≠ .skip) : s.contactCame h = s := by
  unfold State.contactCame
  rw [if_neg hm]
  revert hw hs
  cases (s.head h).cycle <;> simp

theorem fillTarget_of_filling {s : State} (hm : s.mode ≠ .calibration) (k : SlotId) :
    s.fillTarget k = (s.recipe k).target * 1000 := if_neg hm

/-- Settles O20: PRESSURIZE entry, the skip of a head without a slot, and the mark of a skipped one. -/
theorem contactArrivalBeginsTheFill : Obligations.ContactArrivalBeginsTheFill := by
  intro h s hs hcontact hfilling x level
  have hm : level.mode ≠ .calibration := mode_of_fillingMode hfilling
  rw [exec_contactArrival hs hcontact]
  refine ⟨fun hc k hk => ?_, fun hc ha hp hk => ?_, fun hc => ?_, fun hw hn => ?_⟩
  · obtain ⟨honly, hhead, hopen⟩ := State.enterPressurize_spec (s := level) hk
    obtain ⟨-, -, -, hrecipe, hkept, hpending, hbindings⟩ := level.adopt_spec h
    have hslots := congrArg State.slots honly.2
    have hcount := congrArg State.pendingChangeovers honly.2
    have hslot : ∀ j, (level.enterPressurize h).slot j = (level.adopt h).slot j := fun j =>
      congrArg (fun v : Vector Slot 8 => v[j]) hslots
    rw [show (level.head h).cycle = .waitBottle from hc] at honly
    rw [fillTarget_of_filling hm] at hhead
    refine ⟨_, congrArg _ (contactCame_begins hm hc (windowSlot_eq_some.mpr hk)), ?_, hhead, hopen,
      fun j => ?_, fun hp => ?_, fun hp ha => ⟨?_, fun j => ?_⟩⟩
    · rw [hslots, hcount]; exact honly
    · rw [hslot]; exact hrecipe j
    · rw [hslots, hcount]; exact hkept hp
    · rw [hcount]; exact hpending (by rw [show (level.head h).pendingSlot = some k from hp]; rfl)
    · rw [hslot]; exact hbindings k hp ha j
  · obtain ⟨-, hk⟩ := State.keepsFilling_iff hk
    let seen := level.updHead h fun x => { x with contactSeen := true }
    have hseen : seen.head h = { x with contactSeen := true } := (State.head_updHead _ _ _ _).trans (if_pos rfl)
    refine ⟨seen.enter h .skip none, congrArg _ ((contactCame_skips hm hc ha hp).trans (State.leaveFlight_eq hk)),
      .of_get (fun g hg => ?_) (fun g hg => ?_) ?_, ?_, ?_⟩
    · simp [seen, hg]; rfl
    · simp [seen, hg]; rfl
    · rw [(OnlyHead.enter h _ _ _).2, hseen, show x.cycle = .waitBottle from hc]; rfl
    · simp [hseen]
    · simp [openSet, Outputs.allOff]
  · exact congrArg _ (contactCame_skip hm hc)
  · exact congrArg _ (contactCame_of_noWait hm hw hn)

end Sys2Proof.Machine
end

section
/-! PROPERTY. The end of a fill: the settle expiry with its learning step, and the snift dwell expiry that judges
(R34, R36, R40, R41, R64 to R66, R71, R78, R155, R156). -/

namespace Sys2Proof.Machine

/-! ### The snift dwell -/

/-- Settles O25: the judged, reported and counted fill of a head in SNIFT. -/
theorem sniftExpiryJudgesTheFill : Obligations.SniftExpiryJudgesTheFill := by
  intro h s c hs hk hc ht hfill v limit
  obtain ⟨hm, hk⟩ := State.keepsFilling_iff hk
  have hspec := State.finishSnift_spec hfill hm hk
  rw [hc] at hspec
  exact ⟨s.finishSnift h, congrArg _ (onExpiry_running hs hc ht _), hspec⟩

/-- A calibration run that reaches DONE (R156). -/
theorem finishSnift_runEnded {s : State} {h : HeadId} {c : FillContext} (hfill : (s.head h).fill = some c)
    (hc : (s.head h).cycle.inFlight = true) (hm : s.mode = .calibration) :
    RunEnded s h c (judgedRun c) (if judgedRun c = .complete then .awaitActual else .armed) (s.finishSnift h) := by
  have hnext : afterRun (runOutcome c) = if judgedRun c = .complete then .awaitActual else .armed := by
    show afterRun (judgedRun c) = _
    unfold judgedRun
    split
    · rfl
    · split <;> rfl
  rw [State.finishSnift_calibration hfill hm, hnext]
  obtain ⟨hhead, hopen, hothers, hframe⟩ := State.endRun_spec hfill (runOutcome c)
    (if judgedRun c = .complete then .awaitActual else .armed)
  rw [hc] at hframe
  exact ⟨hhead, hopen, hothers, hframe⟩

/-! ### The learning step -/

/-- The state of a settle expiry after its learning step: the entry learned, the head's context flagged (R71, R78). -/
def State.learnt (h : HeadId) (c : FillContext) (s : State) : State :=
  (s.learn h c).updHead h fun x => { x with fill := some (learnedContext (s.recipe c.slot) c) }

/-- A settle expiry in PRODUCTION or DRAINING (R34, R36). -/
theorem finishSettle_filling {s : State} {h : HeadId} {c : FillContext} (hfill : (s.head h).fill = some c)
    (hm : s.mode ≠ .calibration) : s.finishSettle h =
      if (s.recipe c.slot).sniftDwell = 0 then (s.learnt h c).finishSnift h
      else (s.learnt h c).enter h .snift (some ⟨.sniftDwell, (s.recipe c.slot).sniftDwell⟩) := by
  unfold State.finishSettle
  rw [hfill]
  simp only [hm, if_false]
  rfl

/-- In CALIBRATION nothing is learned (R63, R155). -/
theorem finishSettle_calibration {s : State} {h : HeadId} {c : FillContext} (hfill : (s.head h).fill = some c)
    (hm : s.mode = .calibration) : s.finishSettle h =
      if (s.recipe c.slot).sniftDwell = 0 then s.finishSnift h
      else s.enter h .snift (some ⟨.sniftDwell, (s.recipe c.slot).sniftDwell⟩) := by
  unfold State.finishSettle
  rw [hfill]
  simp only [hm, if_true]

theorem learnt_frame (s : State) (h : HeadId) (c : FillContext) : s.learnt h c = { s with
    heads := s.heads.set h { s.head h with fill := some (learnedContext (s.recipe c.slot) c) }
    corrections := (s.learn h c).corrections
    reservation := if eligible (s.recipe c.slot) c = true ∧ s.reservation = some (h, c.slot) then none
      else s.reservation } := by
  unfold State.learnt
  rw [(s.learn_spec h c).1]
  rfl

theorem head_learnt (s : State) (h g : HeadId) (c : FillContext) : (s.learnt h c).head g =
    if g = h then { s.head h with fill := some (learnedContext (s.recipe c.slot) c) } else s.head g := by
  rw [learnt_frame]
  exact vector_set_get _ _ _ _

theorem corrections_learnt (s : State) (h : HeadId) (c : FillContext) :
    (s.learnt h c).corrections = (s.learn h c).corrections := rfl

theorem output_learnt (s : State) (h g : HeadId) (c : FillContext) : (s.learnt h c).output g = s.output g := by
  rw [learnt_frame]
  rfl

/-- What follows at the head after the learning step touches that head, and the step's own fields keep their values. -/
theorem OnlyHead.of_learnt {s t u : State} {h : HeadId} {c : FillContext} (ht : OnlyHead h (s.learnt h c) t u) :
    OnlyHead h s t u :=
  ⟨fun g hg => ⟨by rw [ht.head_ne hg, head_learnt, if_neg hg], by rw [ht.output_ne hg, output_learnt]⟩, ht.2⟩

/-- Settles O24: the learning step, then SNIFT or at once the judgement; in CALIBRATION the second part alone. -/
theorem settleExpiryLearnsFromTheError : Obligations.SettleExpiryLearnsFromTheError := by
  intro h s c hs hcycle htimer hfill x r e outlier learns c' learnt left v limit sniffing
  have hoperate : exec (.settleExpiry h) s = .next (s.finishSettle h) :=
    congrArg _ (onExpiry_running hs hcycle htimer _)
  have houtlier : isOutlier r c = outlier := isOutlier_iff r c
  have hlearns : eligible r c = learns := by
    unfold eligible
    rw [houtlier]
  have hcontext : learnedContext r c = c' := by
    unfold learnedContext
    rw [houtlier, hlearns]
  have hframe := learnt_frame s h c
  rw [show eligible (s.recipe c.slot) c = learns from hlearns] at hframe
  have hself : (s.learnt h c).head h = { x with fill := some c' } := by
    rw [head_learnt, if_pos rfl, show learnedContext (s.recipe c.slot) c = c' from hcontext]
  have hentries : ∀ t : State, t.corrections = (s.learn h c).corrections → learnt t := fun t ht g k => by
    have := (s.learn_spec h c).2 g k
    rw [show eligible (s.recipe c.slot) c = learns from hlearns] at this
    unfold State.correction at this ⊢
    rw [ht]
    exact this
  rw [hoperate]
  refine ⟨fun hm hdwell => ?_, fun hk hdwell => ?_, fun hm hdwell => ?_, fun hm hdwell => ?_⟩
  · have hm := mode_of_fillingMode hm
    refine ⟨_, congrArg _ ((finishSettle_filling hfill hm).trans (if_neg hdwell)), ?_, hentries _ ?_, ?_, ?_⟩
    · have honly := OnlyHead.enter_inFlight (s := s.learnt h c) (h := h) (by rw [hself, hcycle]; rfl)
        (c := .snift) rfl (some ⟨.sniftDwell, r.sniftDwell⟩)
      rw [State.enter_corrections, corrections_learnt]
      exact .of_learnt ⟨honly.1, honly.2.trans (by rw [hframe])⟩
    · rw [State.enter_corrections, corrections_learnt]
    · rw [State.head_enter, if_pos rfl, hself]
    · simp [openSet, Outputs.allOff]
  · obtain ⟨hm, hk⟩ := State.keepsFilling_iff hk
    have hrecipe : (s.learnt h c).recipe c.slot = r := by rw [hframe]; rfl
    obtain ⟨honly, hhead, hopen⟩ := State.finishSnift_spec (s := s.learnt h c) (h := h) (c := c')
      (by rw [hself]) (by rw [hframe]; exact hm) (by rw [hframe]; exact hk)
    have hcorrections : ((s.learnt h c).finishSnift h).corrections = (s.learn h c).corrections := by
      rw [honly.2, corrections_learnt]
    have hlimit : (s.learnt h c).tracker = s.tracker := by rw [hframe]
    rw [hself, hlimit, show judgedVerdict ((s.learnt h c).recipe c'.slot) c' = v from
      congrArg (judgedVerdict · c') hrecipe] at honly hhead
    refine ⟨_, congrArg _ ((finishSettle_filling hfill hm).trans (if_pos hdwell)), ?_, hentries _ hcorrections, hhead,
      hopen⟩
    rw [hcorrections]
    refine .of_learnt ⟨honly.1, honly.2.trans ?_⟩
    rw [show x.cycle = .closing from hcycle, hframe]
    rfl
  · refine ⟨_, congrArg _ ((finishSettle_calibration hfill hm).trans (if_neg hdwell)), ?_, ?_⟩
    · exact OnlyHead.enter_inFlight (by rw [hcycle]; rfl) rfl _
    · rw [State.head_enter, if_pos rfl]
  · refine ⟨_, congrArg _ ((finishSettle_calibration hfill hm).trans (if_pos hdwell)), ?_⟩
    exact finishSnift_runEnded hfill (by rw [hcycle]; rfl) hm

end Sys2Proof.Machine
end

section
/-! PROPERTY. Noninterference: a contact change or a timer expiry at one head leaves every other head alone
(section 2 of chapter 2, R22, R43, R138). -/

namespace Sys2Proof.Machine

theorem windowSlot_eq_none {x : Head} : x.windowSlot = none ↔ x.active = none ∧ x.pendingSlot = none := by
  unfold Head.windowSlot
  cases x.pendingSlot <;> simp

/-- Between `s` and `t` nothing changes at a head other than `h`: record, outputs, lane, contact and entries. -/
def OthersStay (h : HeadId) (s t : State) : Prop :=
  ∀ g, g ≠ h → t.head g = s.head g ∧ t.output g = s.output g ∧ t.lane g = s.lane g ∧ t.contact g = s.contact g ∧
    ∀ k, t.correction g k = s.correction g k

namespace OthersStay

variable {h : HeadId} {s t u : State}

theorem refl (h : HeadId) (s : State) : OthersStay h s s := fun _ _ => ⟨rfl, rfl, rfl, rfl, fun _ => rfl⟩

theorem trans (h₁ : OthersStay h s t) (h₂ : OthersStay h t u) : OthersStay h s u := fun g hg => by
  obtain ⟨head₁, output₁, lane₁, contact₁, correction₁⟩ := h₁ g hg
  obtain ⟨head₂, output₂, lane₂, contact₂, correction₂⟩ := h₂ g hg
  exact ⟨head₂.trans head₁, output₂.trans output₁, lane₂.trans lane₁, contact₂.trans contact₁,
    fun k => (correction₂ k).trans (correction₁ k)⟩

/-- What touches one head's record and outputs and no lane, contact or entry. -/
theorem of_only (ho : OnlyHead h s t u) (hlanes : u.lanes = s.lanes := by rfl) (hpins : u.pins = s.pins := by rfl)
    (hcorrections : u.corrections = s.corrections := by rfl) : OthersStay h s t := fun g hg => by
  have lanes : t.lanes = s.lanes := (congrArg State.lanes ho.2).trans hlanes
  have pins : t.pins = s.pins := (congrArg State.pins ho.2).trans hpins
  have corrections : t.corrections = s.corrections := (congrArg State.corrections ho.2).trans hcorrections
  refine ⟨ho.head_ne hg, ho.output_ne hg, ?_, ?_, fun k => ?_⟩
  · unfold State.lane; rw [lanes]
  · unfold State.contact; rw [pins]
  · unfold State.correction; rw [corrections]

theorem putContact (h : HeadId) (s : State) (b : Bool) : OthersStay h s (s.putContact h b) := fun g hg =>
  ⟨rfl, rfl, rfl, (State.contact_putContact s h g b).trans (if_neg hg), fun _ => rfl⟩

theorem updHead (h : HeadId) (s : State) (f : Head → Head) : OthersStay h s (s.updHead h f) := fun g hg =>
  ⟨(State.head_updHead s h g f).trans (if_neg hg), rfl, rfl, rfl, fun _ => rfl⟩

theorem enter (h : HeadId) (s : State) (c : CycleState) (tm : Option Timer) : OthersStay h s (s.enter h c tm) :=
  of_only (.enter h c tm s)

theorem learnt (h : HeadId) (s : State) (c : FillContext) : OthersStay h s (s.learnt h c) := fun g hg => by
  refine ⟨(head_learnt s h g c).trans (if_neg hg), output_learnt s h g c, ?_, ?_, fun k => ?_⟩
  · rw [learnt_frame]; rfl
  · rw [learnt_frame]; rfl
  · exact ((s.learn_spec h c).2 g k).trans (if_neg fun hn => hg hn.1)

theorem enterPressurize (h : HeadId) (s : State) : OthersStay h s (s.enterPressurize h) := by
  cases hw : (s.head h).windowSlot with
  | none => rw [enterPressurize_none hw]; exact refl h s
  | some k => exact of_only (State.enterPressurize_spec (windowSlot_eq_some.mp hw)).1

theorem startRun (h : HeadId) (s : State) : OthersStay h s (s.startRun h) := by
  unfold State.startRun
  split
  · exact refl h s
  · exact enterPressurize h s

theorem endRun (h : HeadId) (s : State) (o : CalOutcome) (u : CalState) : OthersStay h s (s.endRun h o u) := by
  cases hfill : (s.head h).fill with
  | none => unfold State.endRun; rw [hfill]; exact refl h s
  | some c => exact of_only (State.endRun_spec hfill o u).2.2

/-! ### Operations that take a head out of flight, while they do not end DRAINING -/

variable (hk : s.mode ≠ .draining ∨ 1 < s.inFlight)
include hk

theorem abortFill (h : HeadId) (v : Verdict) : OthersStay h s (s.abortFill h v) := by
  cases hfill : (s.head h).fill with
  | none => unfold State.abortFill; rw [hfill]; exact refl h s
  | some c => exact of_only (State.abortFill_spec hfill v hk).1

theorem endFill (h : HeadId) (v : Verdict) : OthersStay h s (s.endFill h v) := by
  cases hfill : (s.head h).fill with
  | none =>
    have : s.endFill h v = s.goIdle h := by
      unfold State.endFill State.reportFill; rw [hfill]; exact State.leaveToIdle_eq hk
    rw [this]
    exact of_only (.goIdle h s)
  | some c => exact of_only (State.endFill_spec hfill v hk).1

theorem leaveFlight (h : HeadId) (c : CycleState) (tm : Option Timer) : OthersStay h s (s.leaveFlight h c tm) := by
  rw [State.leaveFlight_eq hk]
  exact enter h s c tm

theorem leaveToIdle (h : HeadId) : OthersStay h s (s.leaveToIdle h) := by
  rw [State.leaveToIdle_eq hk]
  exact of_only (.goIdle h s)

theorem finishSnift (h : HeadId) : OthersStay h s (s.finishSnift h) := by
  cases hfill : (s.head h).fill with
  | none => unfold State.finishSnift; rw [hfill]; exact refl h s
  | some c =>
    by_cases hm : s.mode = .calibration
    · rw [State.finishSnift_calibration hfill hm]; exact endRun h s _ _
    · exact of_only (State.finishSnift_spec hfill hm hk).1

theorem finishSettle (h : HeadId) : OthersStay h s (s.finishSettle h) := by
  cases hfill : (s.head h).fill with
  | none => unfold State.finishSettle; rw [hfill]; exact refl h s
  | some c =>
    by_cases hm : s.mode = .calibration
    · rw [finishSettle_calibration hfill hm]
      split
      · exact finishSnift hk h
      · exact enter h s _ _
    · rw [finishSettle_filling hfill hm]
      refine (learnt h s c).trans ?_
      split
      · exact finishSnift (by rw [learnt_frame]; exact hk) h
      · exact enter h _ _ _

theorem contactCame (h : HeadId) : OthersStay h s (s.contactCame h) := by
  by_cases hm : s.mode = .calibration
  · unfold State.contactCame
    rw [if_pos hm]
    split
    · exact startRun h s
    · exact refl h s
  · by_cases hw : (s.head h).cycle = .waitBottle
    · cases hslot : (s.head h).windowSlot with
      | some k => rw [contactCame_begins hm hw hslot]; exact enterPressurize h s
      | none =>
        obtain ⟨ha, hp⟩ := windowSlot_eq_none.mp hslot
        rw [contactCame_skips hm hw ha hp]
        exact (updHead h s fun x => { x with contactSeen := true }).trans
          (leaveFlight (s := s.updHead h fun x => { x with contactSeen := true }) hk h _ _)
    · by_cases hs : (s.head h).cycle = .skip
      · rw [contactCame_skip hm hs]; exact updHead h s _
      · rw [contactCame_of_noWait hm hw hs]; exact refl h s

theorem contactWent (h : HeadId) : OthersStay h s (s.contactWent h) := by
  by_cases hc : (s.head h).cycle.holdsFill = true
  · by_cases hm : s.mode = .calibration
    · rw [contactWent_calibration hm hc]; exact endRun h s _ _
    · by_cases hn : (s.head h).cycle = .snift
      · rw [contactWent_shortSnift hm hn]; exact endFill hk h _
      · rw [contactWent_bursts hm hc hn]; exact abortFill hk h _
  · rw [contactWent_of_noFill (Bool.eq_false_of_not_eq_true hc)]; exact refl h s

end OthersStay

/-- Settles O26: each of the seven rows runs an operation that leaves the other heads, on the state with the new level. -/
theorem headEventsTouchOneHead : Obligations.HeadEventsTouchOneHead := by
  intro h g s t i hg hk hi ht
  have served : ∀ u, exec i s = .next u → OthersStay h s u → OthersStay h s t := fun u hu ho =>
    Host.Outcome.next.inj (hu.symm.trans ht) ▸ ho
  have expires : ∀ (c : CycleState) (k : TimerKind) (act : State → State), OthersStay h s (act s) →
      OthersStay h s (onExpiry c k h act s) := fun c k act ha => by
    refine event_cases _ (.refl h s) ?_
    split
    · exact ha
    · exact .refl h s
  suffices OthersStay h s t from this g hg
  simp only [List.mem_cons, List.not_mem_nil, or_false] at hi
  rcases hi with rfl | rfl | rfl | rfl | rfl | rfl | rfl
  · refine served _ rfl ?_
    split
    · exact .refl h s
    · have hlevel := OthersStay.putContact h s true
      have hcame := OthersStay.contactCame (s := s.putContact h true) hk h
      exact event_cases (P := OthersStay h s) _ hlevel (hlevel.trans hcame)
  · refine served _ rfl ?_
    split
    · have hlevel := OthersStay.putContact h s false
      have hwent := OthersStay.contactWent (s := s.putContact h false) hk h
      exact event_cases (P := OthersStay h s) _ hlevel (hlevel.trans hwent)
    · exact .refl h s
  · exact served _ rfl (expires _ _ _ (.leaveToIdle hk h))
  · exact served _ rfl (expires _ _ _ (.enter h s _ _))
  · exact served _ rfl (expires _ _ _ (.finishSettle hk h))
  · exact served _ rfl (expires _ _ _ (.finishSnift hk h))
  · exact served _ rfl (expires _ _ _ (.of_only (.endVent h s)))

end Sys2Proof.Machine
end

section
/-! SUPPORT. The scan of a head in a fill stage: what DE makes of its context and what it decides (R48, R49, R53,
R55 to R61), and what each decision does to its head. -/

namespace Sys2Proof.Machine

/-! ### The work on a lane -/

theorem rawDelta_eq (s : State) (h : HeadId) : s.rawDelta h = s.scanDelta h := by
  unfold State.rawDelta State.scanDelta
  rw [BitVec.toNat_sub]
  have := (s.lane h).lastSample.isLt
  omega

theorem deltaUsed_eq (r : Recipe) (raw : Nat) :
    deltaUsed r raw = if r.pulseCeiling < raw then r.pulseCeiling else raw := by
  unfold deltaUsed
  split <;> omega

theorem sat32_eq (n : Nat) : sat32 n = if 4294967295 < n then 4294967295 else n := by
  unfold sat32
  split <;> omega

/-- The context of a fill in a fill stage after a scan (R49, R55 to R57). -/
theorem stuckContext_meterContext (r : Recipe) (raw : Nat) (c : FillContext) :
    stuckContext (deltaUsed r raw) (meterContext r raw c) = { c with
      delivered := sat32 (c.delivered + deltaUsed r raw * c.factor)
      flow := ((c.flow : Int) + (((deltaUsed r raw * c.factor : Nat) : Int) - c.flow) / (2 ^ r.smoothing : Int)).toNat
      zeroScans := if 0 < c.grace then c.zeroScans else if deltaUsed r raw = 0 then c.zeroScans + 1 else 0
      grace := c.grace - 1
      flags := { c.flags with overrange := c.flags.overrange || decide (r.pulseCeiling < raw) } } := by
  unfold stuckContext meterContext nextFlow increment
  rw [Nat.cast_pow]
  by_cases hg : 0 < c.grace
  · simp only [hg, if_true]; rfl
  · have : c.grace = 0 := by omega
    simp [this]

/-- In a fill stage the scan meters, keeps the stuck-meter books and decides (R50, R58, R61). -/
theorem laneWork_fillStage {s : State} {h : HeadId} {c : FillContext} (hstage : (s.head h).cycle.isFillStage = true)
    (hfill : (s.head h).fill = some c) :
    let r := s.recipe c.slot
    let used := deltaUsed r (s.rawDelta h)
    let k := stuckContext used (meterContext r (s.rawDelta h) c)
    s.laneWork h = some ⟨k, if stuckNow r used c then .abortStuck else stageDecision r (s.head h).cycle k⟩ := by
  intro r used k
  have hmetered : (s.head h).cycle.metered = true := by unfold CycleState.metered; rw [hstage]; rfl
  unfold State.laneWork
  rw [hfill]
  dsimp only
  rw [if_pos hmetered]
  unfold scanFill
  dsimp only
  rw [if_pos hstage]
  show some (if stuckNow r used c = true then _ else _) = _
  split <;> rfl

/-- Outside the fill stages a lane brings no decision (R50, R62). -/
theorem decision_noFillStage {s : State} {h : HeadId} (hstage : (s.head h).cycle.isFillStage = false) :
    s.decision h = .stay := by
  unfold State.decision State.laneWork
  split
  · next c _ =>
    split
    · unfold scanFill
      dsimp only
      rw [if_neg (by rw [hstage]; decide)]
      rfl
    · rfl
  · rfl

theorem stageDecision_ne_abort (r : Recipe) (x : CycleState) (c : FillContext) : stageDecision r x c ≠ .abortStuck := by
  unfold stageDecision
  split
  · decide
  · split
    · decide
    · split <;> decide

theorem stuckNow_iff {r : Recipe} {used : Nat} {c : FillContext} : stuckNow r used c = true ↔
    c.grace = 0 ∧ used = 0 ∧ (r.stuckWindow * 1000 + 255) / 256 ≤ c.zeroScans + 1 := by
  unfold stuckNow stuckLimit ceilDiv
  simp only [Bool.and_eq_true, decide_eq_true_eq, and_assoc]
  rfl

theorem stuckAt_fillStage {s : State} {h : HeadId} {c : FillContext} (hstage : (s.head h).cycle.isFillStage = true)
    (hfill : (s.head h).fill = some c) :
    s.stuckAt h = stuckNow (s.recipe c.slot) (deltaUsed (s.recipe c.slot) (s.rawDelta h)) c := by
  rw [Bool.eq_iff_iff, stuckNow_iff, rawDelta_eq]
  unfold State.stuckAt deltaUsed
  rw [hfill, Nat.min_comm]
  simp only [hstage, Bool.true_and, Bool.and_eq_true, decide_eq_true_eq, and_assoc]

/-- DE aborts exactly the fills whose meter the scan finds stuck (R58). -/
theorem decision_abort_iff (s : State) (h : HeadId) : s.decision h = .abortStuck ↔ s.stuckAt h = true := by
  by_cases hstage : (s.head h).cycle.isFillStage = true
  · cases hfill : (s.head h).fill with
    | none =>
      have : s.decision h = .stay := by unfold State.decision State.laneWork; rw [hfill]; rfl
      rw [this]
      unfold State.stuckAt
      rw [hfill]
      simp
    | some c =>
      unfold State.decision
      rw [laneWork_fillStage hstage hfill, stuckAt_fillStage hstage hfill]
      dsimp only [Option.map_some, Option.getD_some]
      split
      · next hn => simp [hn]
      · next hn => exact iff_of_false (stageDecision_ne_abort _ _ _) hn
  · rw [decision_noFillStage (Bool.eq_false_of_not_eq_true hstage)]
    unfold State.stuckAt
    cases (s.head h).fill <;> simp [hstage]

/-- The context of a fill in a fill stage after a scan. -/
def State.scannedContext (s : State) (h : HeadId) (c : FillContext) : FillContext :=
  let r := s.recipe c.slot
  stuckContext (deltaUsed r (s.rawDelta h)) (meterContext r (s.rawDelta h) c)

theorem slot_scannedContext (s : State) (h : HeadId) (c : FillContext) : (s.scannedContext h c).slot = c.slot := by
  unfold State.scannedContext
  rw [stuckContext_meterContext]

theorem meteredHead_fillStage {s : State} {h : HeadId} {c : FillContext} (hstage : (s.head h).cycle.isFillStage = true)
    (hfill : (s.head h).fill = some c) :
    s.meteredHead h = { s.head h with fill := some (s.scannedContext h c) } := by
  unfold State.meteredHead
  rw [laneWork_fillStage hstage hfill]
  rfl

/-- Where the meter is not stuck, the stage decides (R61). -/
theorem decision_fillStage {s : State} {h : HeadId} {c : FillContext} (hstage : (s.head h).cycle.isFillStage = true)
    (hfill : (s.head h).fill = some c) (hn : ¬ s.stuckAt h = true) :
    s.decision h = stageDecision (s.recipe c.slot) (s.head h).cycle (s.scannedContext h c) := by
  unfold State.decision
  rw [laneWork_fillStage hstage hfill, ← stuckAt_fillStage hstage hfill]
  exact if_neg hn

end Sys2Proof.Machine
end

section
/-! SUPPORT. The decisions of a scan at the heads: the closes and stage changes, then the aborts, each head once. -/

namespace Sys2Proof.Machine

/-! ### Closes and stage changes -/

/-- A head's record after a decision of DE that leaves it in flight (R29, R33). -/
def Decision.headAfter (s : State) (x : Head) : Decision → Head
  | .stay => x
  | .abortStuck => x
  | .toTopUp => { x with cycle := .fillTopUp, timer := none }
  | .toFast => { x with cycle := .fillFast, timer := none }
  | .close => match x.fill with
    | none => x
    | some c => { x with
      cycle := .closing
      timer := some ⟨.settle, (s.recipe c.slot).settleTime⟩
      fill := some { c with duration := fillDuration s.clock c.startTime } }

theorem CycleState.inFlight_of_isFillStage {c : CycleState} (h : c.isFillStage = true) : c.inFlight = true := by
  revert h; cases c <;> decide

/-- A close or a stage change acts on its own head and keeps it in flight. -/
theorem takeDecision_moves {s : State} {h : HeadId} {d : Decision} (hd : d ≠ .abortStuck)
    (hfill : d ≠ .stay → (s.head h).fill.isSome = true ∧ (s.head h).cycle.isFillStage = true) :
    OnlyHead h s (s.takeDecision d h) s ∧ (s.takeDecision d h).head h = d.headAfter s (s.head h) := by
  cases d with
  | stay => exact ⟨.of_get (fun _ _ => rfl) (fun _ _ => rfl) rfl, rfl⟩
  | abortStuck => exact absurd rfl hd
  | toTopUp =>
    have hstage := CycleState.inFlight_of_isFillStage (hfill (by decide)).2
    exact ⟨OnlyHead.enter_inFlight hstage rfl none, (State.head_enter s h h _ _).trans (if_pos rfl)⟩
  | toFast =>
    have hstage := CycleState.inFlight_of_isFillStage (hfill (by decide)).2
    exact ⟨OnlyHead.enter_inFlight hstage rfl none, (State.head_enter s h h _ _).trans (if_pos rfl)⟩
  | close =>
    obtain ⟨hsome, hstage⟩ := hfill (by decide)
    obtain ⟨c, hc⟩ := Option.isSome_iff_exists.mp hsome
    obtain ⟨honly, hhead, -⟩ := State.enterClosing_spec hc false
    rw [CycleState.inFlight_of_isFillStage hstage] at honly
    refine ⟨honly, hhead.trans ?_⟩
    unfold Decision.headAfter
    rw [hc, Bool.or_false]

/-- The heads of `l` have taken their decisions between `s` and `t`, and nothing else changed. -/
structure Moved (d : HeadId → Decision) (s : State) (l : List HeadId) (t : State) : Prop where
  frame : t = { s with heads := t.heads, outputs := t.outputs }
  moved : ∀ g ∈ l, t.head g = (d g).headAfter s (s.head g)
  others : ∀ g, g ∉ l → t.head g = s.head g ∧ t.output g = s.output g

/-- Each head of a list once: a fold whose every step acts on its own head, read from the left. -/
theorem foldl_each {f : State → HeadId → State} {s : State} {P : List HeadId → State → Prop} {l : List HeadId}
    (hn : l.Nodup) (h0 : P [] s) (hstep : ∀ l' h t, h ∈ l → h ∉ l' → P l' t → P (l' ++ [h]) (f t h)) :
    P l (l.foldl f s) := by
  induction l using List.reverseRecOn with
  | nil => exact h0
  | append_singleton l h ih =>
    rw [List.foldl_append]
    have hh : h ∉ l := fun hm => List.disjoint_of_nodup_append hn hm (List.mem_singleton_self h)
    exact hstep l h _ (by simp) hh
      (ih hn.of_append_left fun l' g t hg => hstep l' g t (List.mem_append_left _ hg))

theorem headAfter_congr {s t : State} (hslots : t.slots = s.slots) (hclock : t.clock = s.clock) (x : Head)
    (d : Decision) : d.headAfter t x = d.headAfter s x := by
  unfold Decision.headAfter
  simp only [State.recipe_eq_of_slots hslots, hclock]

theorem foldl_moved {d : HeadId → Decision} {s : State} {l : List HeadId} (hn : l.Nodup)
    (hd : ∀ g ∈ l, d g ≠ .abortStuck)
    (hfill : ∀ g ∈ l, d g ≠ .stay → (s.head g).fill.isSome = true ∧ (s.head g).cycle.isFillStage = true) :
    Moved d s l (l.foldl (fun t h => t.takeDecision (d h) h) s) := by
  refine foldl_each (P := Moved d s) hn ⟨rfl, by simp, fun _ _ => ⟨rfl, rfl⟩⟩ fun l' h t hh hl' ht => ?_
  have hself := (ht.others h hl').1
  obtain ⟨honly, hhead⟩ := takeDecision_moves (s := t) (h := h) (hd h hh) (by rw [hself]; exact hfill h hh)
  refine ⟨?_, fun g hg => ?_, fun g hg => ?_⟩
  · rw [honly.2, ht.frame]
  · rcases List.mem_append.mp hg with hg | hg
    · rw [honly.head_ne fun e => hl' (e ▸ hg)]
      exact ht.moved g hg
    · obtain rfl := List.mem_singleton.mp hg
      rw [hhead, hself]
      exact headAfter_congr (by rw [ht.frame]) (by rw [ht.frame]) _ _
  · obtain ⟨hg, hne⟩ : g ∉ l' ∧ g ≠ h := by simpa using hg
    rw [honly.head_ne hne, honly.output_ne hne]
    exact ht.others g hg

/-! ### Calibration runs ended by a stuck meter -/

/-- The heads of `l` have had their runs ended between `s` and `t` (R157). -/
structure RunsEnded (s : State) (l : List HeadId) (t : State) : Prop where
  frame : t = { s with heads := t.heads, outputs := t.outputs, inFlight := t.inFlight, cal := t.cal }
  ended : ∀ g ∈ l, t.head g = (s.head g).atRest ∧ (t.output g).opened = Outputs.allOff
  others : ∀ g, g ∉ l → t.head g = s.head g ∧ t.output g = s.output g

theorem foldl_endRun {s : State} {l : List HeadId} (hn : l.Nodup) (hfill : ∀ g ∈ l, (s.head g).fill.isSome = true)
    (o : CalOutcome) (u : CalState) : RunsEnded s l (l.foldl (fun t h => t.endRun h o u) s) := by
  refine foldl_each (P := RunsEnded s) hn ⟨rfl, by simp, fun _ _ => ⟨rfl, rfl⟩⟩ fun l' h t hh hl' ht => ?_
  have hself := (ht.others h hl').1
  obtain ⟨c, hc⟩ := Option.isSome_iff_exists.mp (hfill h hh)
  obtain ⟨hhead, hopen, honly⟩ := State.endRun_spec (s := t) (h := h) (by rw [hself]; exact hc) o u
  refine ⟨?_, fun g hg => ?_, fun g hg => ?_⟩
  · rw [honly.2, ht.frame]
  · rcases List.mem_append.mp hg with hg | hg
    · have hne : g ≠ h := fun e => hl' (e ▸ hg)
      rw [honly.head_ne hne, honly.output_ne hne]
      exact ht.ended g hg
    · obtain rfl := List.mem_singleton.mp hg
      rw [hself] at hhead
      exact ⟨hhead, hopen⟩
  · obtain ⟨hg, hne⟩ : g ∉ l' ∧ g ≠ h := by simpa using hg
    rw [honly.head_ne hne, honly.output_ne hne]
    exact ht.others g hg

/-! ### Fills aborted for a stuck meter -/

/-- A fill given up, before MC judges the end of DRAINING (R39, R138). -/
def State.giveUp (h : HeadId) (s : State) : State :=
  match (s.head h).fill with
  | none => s
  | some c =>
    let dwell := (s.recipe c.slot).sniftDwell
    let t := s.reportFill h .meterStuck
    (t.putOutput h { t.output h with vent := decide (dwell ≠ 0) }).enter h .aborted
      (if dwell = 0 then none else some ⟨.vent, dwell⟩)

theorem abortFill_eq {s : State} {h : HeadId} (hf : (s.head h).fill.isSome = true) :
    s.abortFill h .meterStuck = (s.giveUp h).judgeDrain := by
  unfold State.abortFill State.giveUp
  cases hc : (s.head h).fill with
  | none => rw [hc] at hf; exact absurd hf (by decide)
  | some c => rfl

/-- The record of a head whose fill a scan aborted: the fault counted, the vent running (R32, R39, R41). -/
def abortedHead (s : State) (c : FillContext) (x : Head) : Head :=
  { countedHead s.tracker.geometry.lockoutThreshold .meterStuck { x with fill := none } with
    cycle := .aborted
    timer := if (s.recipe c.slot).sniftDwell = 0 then none else some ⟨.vent, (s.recipe c.slot).sniftDwell⟩ }

theorem giveUp_spec {s : State} {h : HeadId} {c : FillContext} (hc : (s.head h).fill = some c) :
    OnlyHead h s (s.giveUp h) { s with
        inFlight := s.inFlight - one (s.head h).cycle.inFlight
        reports := s.reports.filed (storedFill s.reports h c .meterStuck)
        alarms := { s.alarmsFiled 1 with
          headLockout := s.alarms.headLockout ||
            locksOut s.tracker.geometry.lockoutThreshold .meterStuck { s.head h with fill := none } } } ∧
      (s.giveUp h).head h = abortedHead s c (s.head h) ∧
      ((s.giveUp h).output h).opened = ⟨false, false, false, decide ((s.recipe c.slot).sniftDwell ≠ 0)⟩ := by
  have hr := OnlyHead.reportFill hc .meterStuck
  unfold State.giveUp
  rw [hc]
  dsimp only
  refine ⟨OnlyHead.of_get (fun g hg => ?_) (fun g hg => ?_) ?_, ?_, ?_⟩
  · simp [State.head_reportFill hc, hg]
  · simp [hg, hr.output_ne hg]
  · rw [(OnlyHead.enter h _ _ _).2, State.head_putOutput, State.head_reportFill hc, if_pos rfl, State.reportFill_eq hc]
    rfl
  · simp [State.head_reportFill hc, abortedHead]
  · simp [openSet, Outputs.allOff]

/-- A METER_STUCK report of head `h` for the fill with context `c` (R40, R117). -/
def StuckReport (h : HeadId) (c : FillContext) (r : Report) : Prop :=
  ∃ q : ReportQueue, r = storedFill q h c .meterStuck

/-- The heads of `l` have had their fills aborted between `s` and `t`, and MC has not judged the end of DRAINING (R32,
R39 to R41). -/
structure GivenUp (s : State) (l : List HeadId) (t : State) : Prop where
  frame : t = { s with
    heads := t.heads, outputs := t.outputs, inFlight := t.inFlight, reports := t.reports, alarms := t.alarms }
  inFlight : t.inFlight = s.inFlight - l.length
  aborted : ∀ g ∈ l, ∀ c, (s.head g).fill = some c → t.head g = abortedHead s c (s.head g) ∧
    (t.output g).opened = ⟨false, false, false, decide ((s.recipe c.slot).sniftDwell ≠ 0)⟩
  others : ∀ g, g ∉ l → t.head g = s.head g ∧ t.output g = s.output g
  stored : t.reports.records.length ≤ s.reports.records.length + l.length
  reported : s.reports.records.length + l.length ≤ 256 → ∀ g ∈ l, ∀ c, (s.head g).fill = some c →
    ∃ r ∈ t.reports.records, StuckReport g c r

theorem abortedHead_congr {s t : State} (hslots : t.slots = s.slots) (htracker : t.tracker = s.tracker)
    (c : FillContext) (x : Head) : abortedHead t c x = abortedHead s c x := by
  unfold abortedHead
  rw [State.recipe_eq_of_slots hslots, htracker]

/-- The heads of a list hold fills in flight. -/
def InFill (s : State) (l : List HeadId) : Prop :=
  ∀ g ∈ l, (s.head g).fill.isSome = true ∧ (s.head g).cycle.inFlight = true

theorem foldl_giveUp {s : State} {l : List HeadId} (hn : l.Nodup) (hfill : InFill s l) :
    GivenUp s l (l.foldl (fun t h => t.giveUp h) s) := by
  refine foldl_each (P := GivenUp s) hn
    ⟨rfl, rfl, by simp, fun _ _ => ⟨rfl, rfl⟩, le_rfl, fun _ => by simp⟩ fun l' h t hh hl' ht => ?_
  have hself := (ht.others h hl').1
  obtain ⟨hsome, hflight⟩ := hfill h hh
  obtain ⟨c, hc⟩ := Option.isSome_iff_exists.mp hsome
  obtain ⟨honly, hhead, hopen⟩ := giveUp_spec (s := t) (h := h) (c := c) (by rw [hself]; exact hc)
  rw [hself, hflight] at honly
  have hslots : t.slots = s.slots := by rw [ht.frame]
  have hreports := congrArg State.reports honly.2
  dsimp only at hreports
  refine ⟨?_, ?_, fun g hg k hk => ?_, fun g hg => ?_, ?_, fun hroom g hg k hk => ?_⟩
  · rw [honly.2, ht.frame]
  · rw [honly.2, List.length_append, List.length_singleton, ← Nat.sub_sub, ← ht.inFlight]; rfl
  · rcases List.mem_append.mp hg with hg | hg
    · have hne : g ≠ h := fun e => hl' (e ▸ hg)
      rw [honly.head_ne hne, honly.output_ne hne]
      exact ht.aborted g hg k hk
    · obtain rfl := List.mem_singleton.mp hg
      obtain rfl := Option.some.inj (hc.symm.trans hk)
      rw [hhead, hopen, hself, abortedHead_congr hslots (by rw [ht.frame]), State.recipe_eq_of_slots hslots]
      exact ⟨rfl, rfl⟩
  · obtain ⟨hg, hne⟩ : g ∉ l' ∧ g ≠ h := by simpa using hg
    rw [honly.head_ne hne, honly.output_ne hne]
    exact ht.others g hg
  · rw [hreports, List.length_append, List.length_singleton]
    have := t.reports.filed_length_le (storedFill t.reports h c .meterStuck)
    have := ht.stored
    omega
  · rw [List.length_append, List.length_singleton] at hroom
    have hstored := ht.stored
    rw [hreports]
    rcases List.mem_append.mp hg with hg | hg
    · obtain ⟨r, hr, hstuck⟩ := ht.reported (by omega) g hg k hk
      exact ⟨r, (HeadTakes.filed_prefix _ _).subset hr, hstuck⟩
    · obtain rfl := List.mem_singleton.mp hg
      obtain rfl := Option.some.inj (hc.symm.trans hk)
      exact ⟨_, ReportQueue.mem_filed (by omega) _, _, rfl⟩

/-! ### The aborts of a scan and the end of DRAINING -/

/-- The aborts of a scan, one head after the other. -/
def State.abortAll (l : List HeadId) (s : State) : State := l.foldl (fun t h => t.takeDecision .abortStuck h) s

theorem abortAll_append (l : List HeadId) (h : HeadId) (s : State) :
    s.abortAll (l ++ [h]) = (s.abortAll l).takeDecision .abortStuck h := by
  unfold State.abortAll
  rw [List.foldl_append]
  rfl

theorem abortAll_calibration {s : State} {l : List HeadId} (hn : l.Nodup) (hm : s.mode = .calibration)
    (hfill : InFill s l) : s.abortAll l = l.foldl (fun t h => t.endRun h .abortedStuck .armed) s := by
  induction l using List.reverseRecOn with
  | nil => rfl
  | append_singleton l h ih =>
    have hprefix : InFill s l := fun g hg => hfill g (List.mem_append_left _ hg)
    have hended := foldl_endRun hn.of_append_left (fun g hg => (hprefix g hg).1) .abortedStuck .armed
    rw [abortAll_append, ih hn.of_append_left hprefix, List.foldl_append]
    exact if_pos (by rw [hended.frame]; exact hm)

/-- One more abort outside CALIBRATION: the fill is given up, and MC judges the end of DRAINING. -/
theorem takeDecision_abort {s : State} {l : List HeadId} {h : HeadId} (hn : (l ++ [h]).Nodup)
    (hm : s.mode ≠ .calibration) (hfill : InFill s (l ++ [h])) :
    (l.foldl (fun t g => t.giveUp g) s).takeDecision .abortStuck h =
      ((l ++ [h]).foldl (fun t g => t.giveUp g) s).judgeDrain := by
  have hgiven := foldl_giveUp hn.of_append_left fun g hg => hfill g (List.mem_append_left _ hg)
  have hh : h ∉ l := fun hm => List.disjoint_of_nodup_append hn hm (List.mem_singleton_self h)
  rw [List.foldl_append]
  refine Eq.trans (if_neg ?_) (abortFill_eq ?_)
  · rw [hgiven.frame]; exact hm
  · rw [(hgiven.others h hh).1]
    exact (hfill h (by simp)).1

/-- While a head stays in flight, the aborts of a scan do not end DRAINING (R138). -/
theorem abortAll_stays {s : State} {l : List HeadId} (hn : l.Nodup) (hm : s.mode ≠ .calibration)
    (hfill : InFill s l) (hk : s.mode ≠ .draining ∨ l.length < s.inFlight) :
    s.abortAll l = l.foldl (fun t h => t.giveUp h) s := by
  induction l using List.reverseRecOn with
  | nil => rfl
  | append_singleton l h ih =>
    have hgiven := foldl_giveUp hn hfill
    rw [List.length_append, List.length_singleton] at hk
    rw [abortAll_append, ih hn.of_append_left (fun g hg => hfill g (List.mem_append_left _ hg))
      (hk.imp_right fun hk => by omega), takeDecision_abort hn hm hfill]
    refine State.judgeDrain_of_ne (hk.imp (fun hk => ?_) fun hk => ?_)
    · rw [hgiven.frame]; exact hk
    · rw [hgiven.inFlight, List.length_append, List.length_singleton]; omega

/-- The abort of the last heads in flight ends DRAINING (R138). -/
theorem abortAll_ends {s : State} {l : List HeadId} (hn : l.Nodup) (hm : s.mode = .draining) (hfill : InFill s l)
    (hl : l ≠ []) (hk : s.inFlight = l.length) :
    s.abortAll l = (l.foldl (fun t h => t.giveUp h) s).endDraining := by
  have hcal : s.mode ≠ .calibration := by rw [hm]; decide
  obtain ⟨l, h, rfl⟩ := List.eq_nil_or_concat' l |>.resolve_left hl
  have hgiven := foldl_giveUp hn hfill
  have hlength : (l ++ [h]).length = l.length + 1 := by simp
  rw [abortAll_append, abortAll_stays hn.of_append_left hcal (fun g hg => hfill g (List.mem_append_left _ hg))
    (.inr (by omega)), takeDecision_abort hn hcal hfill]
  refine State.judgeDrain_ends ?_ ?_
  · rw [hgiven.frame]; exact hm
  · rw [hgiven.inFlight]; omega

end Sys2Proof.Machine
end

section
/-! SUPPORT. A scan of a bank as a whole: the lanes, the moved heads, the aborted heads, and whether the aborts end
DRAINING (R47, R138). -/

namespace Sys2Proof.Machine

variable {b : BankId} {s : State}

/-! ### The heads of a scan -/

/-- The heads a scan of a bank aborts, in the order they are taken. -/
def State.stuckHeads (b : BankId) (s : State) : List HeadId := abortOrder s.choices (s.abortedBy b)

theorem mem_bankHeads {g : HeadId} : g ∈ bankHeads b ↔ g.val / 16 = b.val := by
  unfold bankHeads
  simp

theorem mem_stuckHeads {g : HeadId} : g ∈ s.stuckHeads b ↔ g.val / 16 = b.val ∧ s.stuckAt g = true := by
  unfold State.stuckHeads abortOrder State.abortedBy
  rw [(List.perm_insertionSort _ _).mem_iff, List.mem_filter, mem_bankHeads, decide_eq_true_eq, decision_abort_iff]

theorem mem_movedBy {g : HeadId} : g ∈ s.movedBy b ↔ g.val / 16 = b.val ∧ ¬ s.stuckAt g = true := by
  unfold State.movedBy
  rw [List.mem_filter, mem_bankHeads, decide_eq_true_eq, ne_eq, decision_abort_iff]

theorem nodup_bankHeads (b : BankId) : (bankHeads b).Nodup := nodup_allHeads.filter _

theorem nodup_stuckHeads (b : BankId) (s : State) : (s.stuckHeads b).Nodup :=
  (List.perm_insertionSort _ _).nodup_iff.mpr ((nodup_bankHeads b).filter _)

theorem length_stuckHeads_le (b : BankId) (s : State) : (s.stuckHeads b).length ≤ 64 := by
  simpa using (nodup_stuckHeads b s).length_le_card

theorem stuckHeads_eq_singleton {h : HeadId} (hbank : h.val / 16 = b.val) (hstuck : s.stuckAt h = true)
    (halone : ∀ g : HeadId, g ≠ h → g.val / 16 = b.val → s.stuckAt g = false) : s.stuckHeads b = [h] := by
  refine List.perm_singleton.mp ((List.perm_ext_iff_of_nodup (nodup_stuckHeads b s) (List.nodup_singleton h)).mpr
    fun g => ?_)
  rw [mem_stuckHeads, List.mem_singleton]
  refine ⟨fun hg => ?_, fun hg => hg ▸ ⟨hbank, hstuck⟩⟩
  by_contra hne
  exact absurd hg.2 (by rw [halone g hne hg.1]; decide)

/-- A head found stuck is in a fill stage and holds a fill. -/
theorem stuckAt_fill {g : HeadId} (hg : s.stuckAt g = true) :
    (s.head g).fill.isSome = true ∧ (s.head g).cycle.isFillStage = true := by
  have hd := (decision_abort_iff s g).mpr hg
  have hne : s.decision g ≠ .stay := by rw [hd]; decide
  refine ⟨fill_of_decision hne, ?_⟩
  by_contra hc
  exact hne (decision_noFillStage (Bool.eq_false_of_not_eq_true hc))

/-! ### Before the aborts -/

/-- The closes and stage changes of a scan, after the lanes. -/
def State.moveAll (b : BankId) (s : State) : State :=
  (s.movedBy b).foldl (fun t h => t.takeDecision (s.decision h) h) (s.scanLanes b)

/-- The state of a scan when the lanes are done and the heads that move have moved. -/
def State.beforeAborts (b : BankId) (s : State) : State :=
  { s.moveAll b with
    choices := if 2 ≤ (s.abortedBy b).length then s.choices + 1 else s.choices }

theorem scanBank_eq (b : BankId) (s : State) : s.scanBank b = (s.beforeAborts b).abortAll (s.stuckHeads b) := rfl

theorem moved_moveAll (b : BankId) (s : State) :
    Moved s.decision (s.scanLanes b) (s.movedBy b) (s.moveAll b) := by
  refine foldl_moved ((nodup_bankHeads b).filter _) (fun g hg => ?_) fun g _ hne => ?_
  · rw [ne_eq, decision_abort_iff]
    exact (mem_movedBy.mp hg).2
  · obtain ⟨f, hself, hsome⟩ := head_scanLanes_fill s b g
    rw [hself]
    refine ⟨hsome.trans (fill_of_decision hne), ?_⟩
    by_contra hc
    exact hne (decision_noFillStage (Bool.eq_false_of_not_eq_true hc))

theorem beforeAborts_frame (b : BankId) (s : State) : s.beforeAborts b = { s with
    heads := (s.beforeAborts b).heads
    outputs := (s.beforeAborts b).outputs
    lanes := (s.scanLanes b).lanes
    choices := (s.beforeAborts b).choices
    cleaning := (s.scanLanes b).cleaning } := by
  have h := (moved_moveAll b s).frame
  unfold State.beforeAborts
  generalize s.moveAll b = m at h ⊢
  generalize (if 2 ≤ (s.abortedBy b).length then s.choices + 1 else s.choices) = n
  obtain ⟨lanes, heads, counters, hlanes⟩ := scanLanes_frame s b
  rw [hlanes] at h ⊢
  rw [h]

theorem head_beforeAborts_moved (b : BankId) (s : State) (g : HeadId) :
    (s.beforeAborts b).head g = (s.moveAll b).head g ∧ (s.beforeAborts b).output g = (s.moveAll b).output g := by
  unfold State.beforeAborts
  generalize (if 2 ≤ (s.abortedBy b).length then s.choices + 1 else s.choices) = n
  exact ⟨rfl, rfl⟩

theorem output_scanLanes (s : State) (b : BankId) (g : HeadId) : (s.scanLanes b).output g = s.output g := by
  unfold State.output
  rw [State.scanLanes_outputs]

/-- Before the aborts a moved head has taken its decision, and a head to be aborted has its metered context. -/
theorem head_beforeAborts {g : HeadId} (hbank : g.val / 16 = b.val) : (s.beforeAborts b).head g =
    if s.stuckAt g = true then s.meteredHead g else (s.decision g).headAfter s (s.meteredHead g) := by
  have hm := moved_moveAll b s
  have hlanes : (s.scanLanes b).head g = s.meteredHead g := (head_scanLanes s b g).trans (if_pos hbank)
  rw [(head_beforeAborts_moved b s g).1]
  split
  · next hstuck => exact ((hm.others g fun hg => (mem_movedBy.mp hg).2 hstuck).1).trans hlanes
  · next hstuck =>
    refine (hm.moved g (mem_movedBy.mpr ⟨hbank, hstuck⟩)).trans ?_
    rw [hlanes]
    exact headAfter_congr (State.scanLanes_slots ..) (State.scanLanes_clock ..) _ _

theorem beforeAborts_elsewhere {g : HeadId} (hbank : g.val / 16 ≠ b.val) :
    (s.beforeAborts b).head g = s.head g ∧ (s.beforeAborts b).output g = s.output g := by
  obtain ⟨hhead, hout⟩ := (moved_moveAll b s).others g fun hg => hbank (mem_movedBy.mp hg).1
  obtain ⟨ehead, eout⟩ := head_beforeAborts_moved b s g
  exact ⟨(ehead.trans hhead).trans ((head_scanLanes s b g).trans (if_neg hbank)),
    (eout.trans hout).trans (output_scanLanes s b g)⟩

theorem inFill_stuckHeads (b : BankId) (s : State) : InFill (s.beforeAborts b) (s.stuckHeads b) := by
  intro g hg
  obtain ⟨hbank, hstuck⟩ := mem_stuckHeads.mp hg
  obtain ⟨hfill, hstage⟩ := stuckAt_fill hstuck
  rw [head_beforeAborts hbank, if_pos hstuck]
  refine ⟨(isSome_meteredHead s g).trans hfill, ?_⟩
  rw [meteredHead_eq]
  exact CycleState.inFlight_of_isFillStage hstage

/-! ### Whether the aborts end DRAINING -/

theorem stuckHeads_subset (b : BankId) (s : State) :
    s.stuckHeads b ⊆ allHeads.filter fun g => (s.head g).cycle.inFlight := fun _ hg =>
  List.mem_filter.mpr ⟨mem_allHeads _,
    CycleState.inFlight_of_isFillStage (stuckAt_fill (mem_stuckHeads.mp hg).2).2⟩

theorem State.flightCounted.eq_length (hs : s.flightCounted) :
    s.inFlight = (allHeads.filter fun g => (s.head g).cycle.inFlight).length := by
  rw [← List.countP_eq_length_filter]
  exact hs

/-- Where a head stays in flight, more are in flight than the scan aborts. -/
theorem length_stuckHeads_lt (hs : s.flightCounted) {g : HeadId} (hg : (s.head g).cycle.inFlight = true)
    (hn : g ∉ s.stuckHeads b) : (s.stuckHeads b).length < s.inFlight := by
  rw [hs.eq_length]
  refine ((List.nodup_cons.mpr ⟨hn, nodup_stuckHeads b s⟩).subperm ?_).length_le
  exact List.cons_subset.mpr ⟨List.mem_filter.mpr ⟨mem_allHeads g, hg⟩, stuckHeads_subset b s⟩

/-- Where the scan aborts every head in flight, it aborts as many as are counted. -/
theorem length_stuckHeads_eq (hs : s.flightCounted) (hends : scanEndsDraining b s) :
    s.inFlight = (s.stuckHeads b).length := by
  obtain ⟨-, -, hall⟩ := hends
  rw [hs.eq_length]
  refine le_antisymm (((nodup_allHeads.filter _).subperm fun g hg => ?_).length_le)
    ((nodup_stuckHeads b s).subperm (stuckHeads_subset b s)).length_le
  exact mem_stuckHeads.mpr (hall g (List.mem_filter.mp hg).2)

theorem scanBank_eq_endRuns (hm : s.mode = .calibration) : s.scanBank b =
    (s.stuckHeads b).foldl (fun t h => t.endRun h .abortedStuck .armed) (s.beforeAborts b) := by
  have hmode : (s.beforeAborts b).mode = s.mode := by rw [beforeAborts_frame]
  rw [scanBank_eq]
  exact abortAll_calibration (nodup_stuckHeads b s) (hmode.trans hm) (inFill_stuckHeads b s)

/-- In CALIBRATION a scan ends the runs of the stuck heads (R157). -/
theorem scanBank_calibration (hm : s.mode = .calibration) :
    RunsEnded (s.beforeAborts b) (s.stuckHeads b) (s.scanBank b) := by
  rw [scanBank_eq_endRuns hm]
  exact foldl_endRun (nodup_stuckHeads b s) (fun g hg => (inFill_stuckHeads b s g hg).1) _ _

theorem scanBank_eq_giveUps (hm : s.mode ≠ .calibration) (hcount : s.mode = .draining → s.flightCounted)
    (hflight : ∃ g, (s.head g).cycle.inFlight = true) (hends : ¬scanEndsDraining b s) :
    s.scanBank b = (s.stuckHeads b).foldl (fun t h => t.giveUp h) (s.beforeAborts b) := by
  have hmode : (s.beforeAborts b).mode = s.mode := by rw [beforeAborts_frame]
  have hinFlight : (s.beforeAborts b).inFlight = s.inFlight := by rw [beforeAborts_frame]
  rw [scanBank_eq]
  refine abortAll_stays (nodup_stuckHeads b s) (by rw [hmode]; exact hm) (inFill_stuckHeads b s) ?_
  rw [hmode, hinFlight]
  by_cases hd : s.mode = .draining
  · refine .inr ?_
    by_contra hlt
    refine hends ⟨hd, hflight, fun g hg => ?_⟩
    by_contra hn
    exact hlt (length_stuckHeads_lt (hcount hd) hg fun hmem => hn (mem_stuckHeads.mp hmem))
  · exact .inl hd

/-- Otherwise it aborts their fills (R32), while DRAINING goes on. -/
theorem scanBank_stays (hm : s.mode ≠ .calibration) (hcount : s.mode = .draining → s.flightCounted)
    (hflight : ∃ g, (s.head g).cycle.inFlight = true) (hends : ¬scanEndsDraining b s) :
    GivenUp (s.beforeAborts b) (s.stuckHeads b) (s.scanBank b) := by
  rw [scanBank_eq_giveUps hm hcount hflight hends]
  exact foldl_giveUp (nodup_stuckHeads b s) (inFill_stuckHeads b s)

/-- The aborts that take the last heads out of flight end DRAINING (R138). -/
theorem scanBank_ends (hcount : s.flightCounted) (hends : scanEndsDraining b s) :
    ∃ w, GivenUp (s.beforeAborts b) (s.stuckHeads b) w ∧ DrainedFrom w (s.scanBank b) := by
  have hmode : (s.beforeAborts b).mode = .draining := by rw [beforeAborts_frame]; exact hends.1
  have hinFlight : (s.beforeAborts b).inFlight = s.inFlight := by rw [beforeAborts_frame]
  have hne : s.stuckHeads b ≠ [] := by
    obtain ⟨-, ⟨g, hg⟩, hall⟩ := hends
    exact List.ne_nil_of_mem (mem_stuckHeads.mpr (hall g hg))
  refine ⟨_, foldl_giveUp (nodup_stuckHeads b s) (inFill_stuckHeads b s), ?_⟩
  rw [scanBank_eq, abortAll_ends (nodup_stuckHeads b s) hmode (inFill_stuckHeads b s) hne
    (hinFlight.trans (length_stuckHeads_eq hcount hends))]
  exact State.endDraining_spec _

end Sys2Proof.Machine
end

section
/-! PROPERTY. One scan of a head in a fill stage (R32, R33, R48 to R61, R138, R157). -/

namespace Sys2Proof.Machine

variable {b : BankId} {s : State}

/-! ### Counting a stuck meter -/

theorem countedHead_meterStuck (limit : Nat) (x : Head) : countedHead limit .meterStuck x = { x with
    faults := raisedFaults x
    enable := if lockedAt limit x then .lockedOut else x.enable } ∧
    locksOut limit .meterStuck x = lockedAt limit x := by
  have hfaults : nextFaults .meterStuck x.faults = raisedFaults x := by
    show min 15 (x.faults + 1) = _
    unfold raisedFaults
    split <;> omega
  have hlocks : locksOut limit .meterStuck x = lockedAt limit x := by
    unfold locksOut lockedAt
    rw [hfaults]
    rfl
  refine ⟨?_, hlocks⟩
  unfold countedHead
  rw [hfaults, hlocks]

/-! ### What a scan leaves alone -/

/-- A scan leaves every part of the state but the ones named here; it takes the samples of its lanes. -/
theorem scanBank_frame (hcount : s.mode = .draining → s.flightCounted)
    (hflight : ∃ g, (s.head g).cycle.inFlight = true) :
    let t := s.scanBank b
    t = { s with
      heads := t.heads
      outputs := t.outputs
      lanes := (s.scanLanes b).lanes
      inFlight := t.inFlight
      reports := t.reports
      mode := t.mode
      alarms := t.alarms
      cal := t.cal
      choices := t.choices
      cleaning := (s.scanLanes b).cleaning } := by
  have hbefore := beforeAborts_frame b s
  intro t
  by_cases hends : scanEndsDraining b s
  · obtain ⟨w, hgiven, -, hdrained⟩ := scanBank_ends (hcount hends.1) hends
    have hw := hgiven.frame
    rw [hbefore] at hw
    rw [hw] at hdrained
    rw [show t = _ from hdrained]
  · by_cases hm : s.mode = .calibration
    · have ht := (scanBank_calibration (b := b) hm).frame
      rw [hbefore] at ht
      rw [show t = _ from ht]
    · have ht := (scanBank_stays hm hcount hflight hends).frame
      rw [hbefore] at ht
      rw [show t = _ from ht]

theorem lane_scanBank (hcount : s.mode = .draining → s.flightCounted)
    (hflight : ∃ g, (s.head g).cycle.inFlight = true) (g : HeadId) : (s.scanBank b).lane g =
      if g.val / 16 = b.val then { s.lane g with lastSample := (s.lane g).counter } else s.lane g := by
  have hlanes : (s.scanBank b).lanes = (s.scanLanes b).lanes := by rw [scanBank_frame hcount hflight]
  unfold State.lane
  rw [hlanes]
  exact vector_ofFn_get _ _

/-- While DRAINING does not end, the mode stays, and the aborts touch their own heads alone. -/
theorem scanBank_others (hcount : s.mode = .draining → s.flightCounted)
    (hflight : ∃ g, (s.head g).cycle.inFlight = true) (hends : ¬scanEndsDraining b s) :
    (s.scanBank b).mode = s.mode ∧ ∀ g, g ∉ s.stuckHeads b →
      (s.scanBank b).head g = (s.beforeAborts b).head g ∧ (s.scanBank b).output g = (s.beforeAborts b).output g := by
  have hbefore : (s.beforeAborts b).mode = s.mode := by rw [beforeAborts_frame]
  by_cases hm : s.mode = .calibration
  · have ht := scanBank_calibration (b := b) hm
    exact ⟨(congrArg State.mode ht.frame).trans hbefore, ht.others⟩
  · have ht := scanBank_stays hm hcount hflight hends
    exact ⟨(congrArg State.mode ht.frame).trans hbefore, ht.others⟩

/-! ### A head in a fill stage -/

section fillStage

variable {h : HeadId} {c : FillContext} (hbank : h.val / 16 = b.val)
  (hstage : (s.head h).cycle.isFillStage = true) (hfill : (s.head h).fill = some c)

include hbank hstage hfill

/-- A stuck head before the aborts: metered, nothing else. -/
theorem head_beforeAborts_stuck (hstuck : s.stuckAt h = true) :
    (s.beforeAborts b).head h = { s.head h with fill := some (s.scannedContext h c) } := by
  rw [head_beforeAborts hbank, if_pos hstuck, meteredHead_fillStage hstage hfill]

/-- A head whose meter is not stuck takes the decision of its stage (R61). -/
theorem head_scanBank_notStuck (hcount : s.mode = .draining → s.flightCounted) (hstuck : ¬ s.stuckAt h = true) :
    (s.scanBank b).head h = (stageDecision (s.recipe c.slot) (s.head h).cycle (s.scannedContext h c)).headAfter s
      { s.head h with fill := some (s.scannedContext h c) } := by
  have hflight := CycleState.inFlight_of_isFillStage hstage
  have hends : ¬scanEndsDraining b s := fun hends => hstuck (hends.2.2 h hflight).2
  rw [((scanBank_others hcount ⟨h, hflight⟩ hends).2 h fun hmem => hstuck (mem_stuckHeads.mp hmem).2).1,
    head_beforeAborts hbank, if_neg hstuck, decision_fillStage hstage hfill hstuck,
    meteredHead_fillStage hstage hfill]

/-- The head of a stuck meter in the queue's terms: where there is room for every abort, its report is stored. -/
theorem scanBank_reported (hm : s.mode ≠ .calibration) (hcount : s.mode = .draining → s.flightCounted)
    (hstuck : s.stuckAt h = true) (hroom : s.reports.records.length + 64 ≤ 256) :
    ∃ r ∈ (s.scanBank b).reports.records, StuckReport h (s.scannedContext h c) r := by
  have hmem : h ∈ s.stuckHeads b := mem_stuckHeads.mpr ⟨hbank, hstuck⟩
  have hlength := length_stuckHeads_le b s
  have hreports : (s.beforeAborts b).reports = s.reports := by rw [beforeAborts_frame]
  have reported : ∀ w, GivenUp (s.beforeAborts b) (s.stuckHeads b) w →
      ∃ r ∈ w.reports.records, StuckReport h (s.scannedContext h c) r := fun w hw =>
    hw.reported (by rw [hreports]; omega) h hmem _ (by rw [head_beforeAborts_stuck hbank hstage hfill hstuck])
  by_cases hends : scanEndsDraining b s
  · obtain ⟨w, hgiven, -, hdrained⟩ := scanBank_ends (hcount hends.1) hends
    obtain ⟨r, hr, hstuck⟩ := reported w hgiven
    rw [hdrained]
    exact ⟨r, (ReportQueue.filedAll_prefix _ _).subset hr, hstuck⟩
  · exact reported _ (scanBank_stays hm hcount ⟨h, CycleState.inFlight_of_isFillStage hstage⟩ hends)

/-- The record of an aborted head, in the terms of R32, R39 and R41. -/
theorem abortedHead_scanned (hstuck : s.stuckAt h = true) :
    abortedHead (s.beforeAborts b) (s.scannedContext h c) ((s.beforeAborts b).head h) = { s.head h with
      faults := raisedFaults (s.head h)
      enable := if lockedAt s.tracker.geometry.lockoutThreshold (s.head h) then .lockedOut else (s.head h).enable
      cycle := .aborted
      fill := none
      timer := if (s.recipe c.slot).sniftDwell = 0 then none else some ⟨.vent, (s.recipe c.slot).sniftDwell⟩ } := by
  rw [head_beforeAborts_stuck hbank hstage hfill hstuck,
    abortedHead_congr (s := s) (by rw [beforeAborts_frame]) (by rw [beforeAborts_frame])]
  unfold abortedHead
  rw [(countedHead_meterStuck _ _).1, slot_scannedContext]
  rfl

theorem scanBank_aborted (hm : s.mode ≠ .calibration) (hcount : s.mode = .draining → s.flightCounted)
    (hstuck : s.stuckAt h = true) (hends : ¬scanEndsDraining b s) :
    (s.scanBank b).head h = abortedHead (s.beforeAborts b) (s.scannedContext h c) ((s.beforeAborts b).head h) ∧
      ((s.scanBank b).output h).opened = ⟨false, false, false, decide ((s.recipe c.slot).sniftDwell ≠ 0)⟩ := by
  have hself := head_beforeAborts_stuck hbank hstage hfill hstuck
  have hgiven := scanBank_stays hm hcount ⟨h, CycleState.inFlight_of_isFillStage hstage⟩ hends
  obtain ⟨hhead, hopen⟩ := hgiven.aborted h (mem_stuckHeads.mpr ⟨hbank, hstuck⟩) (s.scannedContext h c) (by rw [hself])
  refine ⟨hhead, hopen.trans ?_⟩
  rw [slot_scannedContext, State.recipe_eq_of_slots (s := s) (by rw [beforeAborts_frame])]

/-- A scan that aborts this fill alone files its report and counts its fault (R40, R41). -/
theorem scanBank_aborted_alone (hm : s.mode ≠ .calibration) (hcount : s.mode = .draining → s.flightCounted)
    (hstuck : s.stuckAt h = true) (hends : ¬scanEndsDraining b s)
    (halone : ∀ g : HeadId, g ≠ h → g.val / 16 = b.val → s.stuckAt g = false) :
    let t := s.scanBank b
    t.reports = s.reports.filed (storedFill s.reports h (s.scannedContext h c) .meterStuck) ∧
      t.inFlight = s.inFlight - 1 ∧ t.alarms = { s.alarmsFiled 1 with
        headLockout := s.alarms.headLockout || lockedAt s.tracker.geometry.lockoutThreshold (s.head h) } := by
  intro t
  have hself := head_beforeAborts_stuck hbank hstage hfill hstuck
  have hflight := CycleState.inFlight_of_isFillStage hstage
  have ht : t = (s.beforeAborts b).giveUp h := by
    refine (scanBank_eq_giveUps hm hcount ⟨h, hflight⟩ hends).trans ?_
    rw [stuckHeads_eq_singleton hbank hstuck halone]
    rfl
  obtain ⟨⟨-, hframe⟩, -⟩ := giveUp_spec (s := s.beforeAborts b) (h := h) (c := s.scannedContext h c) (by rw [hself])
  rw [hself, hflight, (countedHead_meterStuck _ _).2] at hframe
  rw [ht, hframe]
  have hbefore := beforeAborts_frame b s
  refine ⟨?_, ?_, ?_⟩
  · rw [hbefore]
  · rw [hbefore]; rfl
  · rw [hbefore]; rfl

/-- The aborts that end DRAINING leave every head in IDLE (R43, R138). -/
theorem scanBank_drained (hcount : s.mode = .draining → s.flightCounted) (hends : scanEndsDraining b s) :
    let t := s.scanBank b
    t.mode = .standby ∧ t.inFlight = 0 ∧
      t.head h = Head.atRest { s.head h with
        faults := raisedFaults (s.head h)
        enable := if lockedAt s.tracker.geometry.lockoutThreshold (s.head h) then .lockedOut else (s.head h).enable } ∧
      ∀ g, (t.head g).cycle = .idle ∧ (t.output g).opened = Outputs.allOff := by
  intro t
  obtain ⟨w, hgiven, ⟨hheads, houtputs, hzero⟩, hframe⟩ := scanBank_ends (hcount hends.1) hends
  have hstuck := (hends.2.2 h (CycleState.inFlight_of_isFillStage hstage)).2
  have hself := head_beforeAborts_stuck hbank hstage hfill hstuck
  obtain ⟨hhead, -⟩ := hgiven.aborted h (mem_stuckHeads.mpr ⟨hbank, hstuck⟩) (s.scannedContext h c) (by rw [hself])
  refine ⟨congrArg State.mode hframe, hzero, ?_, fun g => ⟨?_, ?_⟩⟩
  · rw [show t.head h = _ from hheads h, hhead, abortedHead_scanned hbank hstage hfill hstuck]
    rfl
  · rw [show t.head g = _ from hheads g]
    rfl
  · rw [show t.output g = _ from houtputs g]

/-- In CALIBRATION a stuck meter ends the run (R157). -/
theorem scanBank_runEnded (hm : s.mode = .calibration) (hstuck : s.stuckAt h = true) :
    (s.scanBank b).head h = (s.head h).atRest ∧ ((s.scanBank b).output h).opened = Outputs.allOff := by
  obtain ⟨hhead, hopen⟩ := (scanBank_calibration (b := b) hm).ended h (mem_stuckHeads.mpr ⟨hbank, hstuck⟩)
  rw [head_beforeAborts_stuck hbank hstage hfill hstuck] at hhead
  exact ⟨hhead, hopen⟩

/-- The run of the only stuck head ends with ABORTED_STUCK, CU in ARMED (R157). -/
theorem scanBank_runEnded_alone (hm : s.mode = .calibration) (hstuck : s.stuckAt h = true)
    (halone : ∀ g : HeadId, g ≠ h → g.val / 16 = b.val → s.stuckAt g = false) :
    let t := s.scanBank b
    let k := s.scannedContext h c
    t.reports = s.reports ∧ t.alarms = s.alarms ∧ t.inFlight = s.inFlight - 1 ∧ t.cal = { s.cal with
      state := .armed
      last := some ⟨h, .abortedStuck, k.delivered / k.factor, k.delivered, none, none, none⟩ } := by
  intro t k
  have hself := head_beforeAborts_stuck hbank hstage hfill hstuck
  have hflight := CycleState.inFlight_of_isFillStage hstage
  have ht : t = (s.beforeAborts b).endRun h .abortedStuck .armed := by
    refine (scanBank_eq_endRuns hm).trans ?_
    rw [stuckHeads_eq_singleton hbank hstuck halone]
    rfl
  obtain ⟨-, -, -, hframe⟩ := State.endRun_spec (s := s.beforeAborts b) (h := h) (c := k) (by rw [hself])
    .abortedStuck .armed
  rw [hself, hflight] at hframe
  rw [ht, hframe]
  have hbefore := beforeAborts_frame b s
  refine ⟨?_, ?_, ?_, ?_⟩
  · rw [hbefore]
  · rw [hbefore]
  · rw [hbefore]; rfl
  · rw [hbefore]

end fillStage

/-- Settles O28: the scanned context and the stuck test in the terms of the rules, then each clause by its lemma. -/
theorem scanMetersAndDecides : Obligations.ScanMetersAndDecides := by
  intro h b s c hs hcount hbank hstage hfill x r raw used inc D F zeros limit A R c' stuck ends alone locks counted
  have hflight : (s.head h).cycle.inFlight = true := CycleState.inFlight_of_isFillStage hstage
  have hraw : s.rawDelta h = raw := rawDelta_eq s h
  have hused : deltaUsed r (s.rawDelta h) = used := by rw [hraw]; exact deltaUsed_eq r raw
  have hcontext : s.scannedContext h c = c' := by
    unfold State.scannedContext
    rw [stuckContext_meterContext, hused, sat32_eq, hraw]
  have hstuck : s.stuckAt h = true ↔ stuck := by
    rw [stuckAt_fillStage hstage hfill, hused, stuckNow_iff]
    refine and_congr_right fun hg => and_congr_right fun hu => ?_
    have hzeros : zeros = c.zeroScans + 1 := (if_neg (by omega)).trans (if_pos hu)
    rw [hzeros]
  have hslotted := head_scanBank_notStuck hbank hstage hfill hcount
  rw [hcontext] at hslotted
  have hafterflow : afterflow c' = A := sat32_eq _
  have hdecision : stageDecision r x.cycle c' = if R ≤ A then .close
      else if x.cycle = .fillFast ∧ R ≤ r.topUpBand * 1000 then .toTopUp
      else if x.cycle = .fillSoft ∧ r.softStart * 1000 ≤ D then .toFast else .stay := by
    unfold stageDecision
    rw [hafterflow]
    rfl
  rw [show stageDecision (s.recipe c.slot) (s.head h).cycle c' = _ from hdecision] at hslotted
  have hframe := scanBank_frame (b := b) hcount ⟨h, hflight⟩
  refine ⟨s.scanBank b, congrArg _ (event_of_running hs _), ?_, fun hst hm hends => ?_, fun hst hm hroom => ?_,
    fun hst hm hends halone => ?_, fun hends => ?_, fun hst hm => ?_, fun hst hle => ?_, fun hst hlt hc hle => ?_,
    fun hst hlt hc hle => ?_, fun hst hlt hc₁ hc₂ => ?_, fun hends => ?_, ?_⟩
  · exact (lane_scanBank hcount ⟨h, hflight⟩ h).trans (if_pos hbank)
  · obtain ⟨hhead, hopen⟩ := scanBank_aborted hbank hstage hfill hm hcount (hstuck.mpr hst) hends
    exact ⟨hhead.trans (abortedHead_scanned hbank hstage hfill (hstuck.mpr hst)), hopen⟩
  · obtain ⟨q, hq, queue, rfl⟩ := scanBank_reported hbank hstage hfill hm hcount (hstuck.mpr hst) (by omega)
    rw [hcontext] at hq
    exact ⟨_, hq, rfl, rfl, rfl, rfl, rfl, rfl, rfl, rfl⟩
  · have h := scanBank_aborted_alone hbank hstage hfill hm hcount (hstuck.mpr hst) hends halone
    rw [hcontext] at h
    exact h
  · exact scanBank_drained hbank hstage hfill hcount hends
  · obtain ⟨hhead, hopen⟩ := scanBank_runEnded hbank hstage hfill hm (hstuck.mpr hst)
    refine ⟨hhead, hopen, fun halone => ?_⟩
    have h := scanBank_runEnded_alone hbank hstage hfill hm (hstuck.mpr hst) halone
    rw [hcontext] at h
    exact h
  · rw [hslotted (hstuck.not.mpr hst), if_pos hle, Nat.min_comm]
    rfl
  · rw [hslotted (hstuck.not.mpr hst), if_neg (by omega), if_pos ⟨hc, hle⟩]
    rfl
  · have hfast : ¬(x.cycle = .fillFast ∧ R ≤ r.topUpBand * 1000) := fun hf =>
      absurd (hc.symm.trans hf.1) (by decide)
    rw [hslotted (hstuck.not.mpr hst), if_neg (by omega), if_neg hfast, if_pos ⟨hc, hle⟩]
    rfl
  · rw [hslotted (hstuck.not.mpr hst), if_neg (by omega), if_neg hc₁, if_neg hc₂]
    rfl
  · obtain ⟨hmode, hothers⟩ := scanBank_others hcount ⟨h, hflight⟩ hends
    refine ⟨hmode, fun g hg => ?_⟩
    obtain ⟨hhead, hout⟩ := hothers g fun hmem => hg (mem_stuckHeads.mp hmem).1
    obtain ⟨ehead, eout⟩ := beforeAborts_elsewhere (s := s) hg
    exact ⟨hhead.trans ehead, hout.trans eout, (lane_scanBank hcount ⟨h, hflight⟩ g).trans (if_neg hg)⟩
  · obtain ⟨lanes, heads, counters, hlanes⟩ := scanLanes_frame s b
    rw [hlanes] at hframe
    rw [hframe]

end Sys2Proof.Machine
end

section
/-! SUPPORT. What an event leaves of the corrections, the edit reservation, the stored recipes and the fills. -/

namespace Sys2Proof.Machine

/-! ### What the law of the fills asks of one head -/

/-- The recipe each slot holds, none where it is EMPTY (R84). -/
def State.stored (s : State) (k : SlotId) : Option Recipe := (s.slot k).recipe

/-- Every slot a head names is LOADED (R92); its fill, if there is one, runs on its active slot with its meter factor,
the delivered volume and the flow estimate in their ranges (R51, R55, R56, R99). -/
def Head.booked (stored : SlotId → Option Recipe) (x : Head) : Prop :=
  (∀ k, x.names k = true → (stored k).isSome = true) ∧
    ∀ c, x.fill = some c → x.active = some c.slot ∧ c.factor = x.factor ∧ c.delivered ≤ 4294967295 ∧
      ∃ r, stored c.slot = some r ∧ c.flow ≤ r.pulseCeiling * c.factor

namespace Head.booked
variable {stored : SlotId → Option Recipe} {x : Head} {c d : FillContext}

/-- A head may give its fill up. -/
theorem unfilled (hx : x.booked stored) : { x with fill := none }.booked stored := ⟨hx.1, fun _ hc => nomatch hc⟩

/-- A fill's context may be replaced by one on the same slot with the same factor, its volume and flow in range. -/
theorem refill (hx : x.booked stored) (hc : x.fill = some c) (hslot : d.slot = c.slot) (hfactor : d.factor = c.factor)
    (hdelivered : c.delivered ≤ 4294967295 → d.delivered ≤ 4294967295)
    (hflow : ∀ r, stored c.slot = some r → c.flow ≤ r.pulseCeiling * c.factor → d.flow ≤ r.pulseCeiling * c.factor) :
    { x with fill := some d }.booked stored := by
  refine ⟨hx.1, fun e he => ?_⟩
  cases he
  obtain ⟨hactive, hown, hvolume, r, hr, hbound⟩ := hx.2 c hc
  rw [hslot, hfactor]
  exact ⟨hactive, hown, hdelivered hvolume, r, hr, hflow r hr hbound⟩

/-- A fill begins on a slot the head names, with its factor and nothing delivered yet (R51). -/
theorem begun (hx : x.booked stored) (hk : x.names c.slot = true) (hfactor : c.factor = x.factor)
    (hdelivered : c.delivered = 0) (hflow : c.flow = 0) :
    { x with active := some c.slot, pendingSlot := none, fill := some c }.booked stored := by
  have hloaded := hx.1 _ hk
  refine ⟨fun j hj => ?_, fun e he => ?_⟩
  · have : c.slot = j := by simpa [Head.names] using hj
    exact this ▸ hloaded
  · cases he
    obtain ⟨r, hr⟩ := Option.isSome_iff_exists.mp hloaded
    exact ⟨rfl, hfactor, by omega, r, hr, by omega⟩

end Head.booked

/-! ### What a scan writes of a context -/

/-- The flow estimate moves towards the increment, so it exceeds a bound only if one of the two does (R56). -/
theorem nextFlow_le {k inc flow b : Nat} (hinc : inc ≤ b) (hflow : flow ≤ b) : nextFlow k inc flow ≤ b := by
  unfold nextFlow
  have hpos : (0 : Int) < ((2 ^ k : Nat) : Int) := by positivity
  have hmove : ((inc : Int) - flow) / ((2 ^ k : Nat) : Int) ≤ max ((inc : Int) - flow) 0 := by
    rcases le_total 0 ((inc : Int) - flow) with h | h
    · exact (Int.ediv_le_self _ h).trans (le_max_left _ _)
    · have := Int.ediv_le_ediv hpos h
      rw [Int.zero_ediv] at this
      exact this.trans (le_max_right _ _)
  omega

theorem meterContext_bounds (r : Recipe) (raw : Nat) (c : FillContext)
    (hflow : c.flow ≤ r.pulseCeiling * c.factor) :
    (meterContext r raw c).delivered ≤ 4294967295 ∧ (meterContext r raw c).flow ≤ r.pulseCeiling * c.factor :=
  ⟨min_le_right _ _, nextFlow_le (Nat.mul_le_mul_right _ (min_le_right _ _)) hflow⟩

/-- A scan writes of a context what it meters, and the stuck-meter books. -/
theorem scanFill_context (r : Recipe) (stage : CycleState) (raw : Nat) (c : FillContext) :
    ∃ zeros grace,
      (scanFill r stage raw c).context = { meterContext r raw c with zeroScans := zeros, grace := grace } := by
  have stuck : ∀ used m, ∃ zeros grace, stuckContext used m = { m with zeroScans := zeros, grace := grace } := by
    intro used m
    unfold stuckContext
    split <;> exact ⟨_, _, rfl⟩
  unfold scanFill
  dsimp only
  split
  · obtain ⟨zeros, grace, e⟩ := stuck (deltaUsed r raw) (meterContext r raw c)
    rw [e]
    split <;> exact ⟨zeros, grace, rfl⟩
  · exact ⟨_, _, rfl⟩

theorem booked_meteredHead {s : State} {h : HeadId} (hx : (s.head h).booked s.stored) :
    (s.meteredHead h).booked s.stored := by
  unfold State.meteredHead State.laneWork
  cases hc : (s.head h).fill with
  | none => exact hx
  | some c =>
    dsimp only
    split
    · next w hw =>
      split at hw
      · cases hw
        obtain ⟨zeros, grace, e⟩ := scanFill_context (s.recipe c.slot) (s.head h).cycle (s.rawDelta h) c
        obtain ⟨-, -, -, r, hr, hflow⟩ := hx.2 c hc
        have hrecipe : s.recipe c.slot = r := by
          unfold State.recipe
          rw [show (s.slot c.slot).recipe = some r from hr]; rfl
        obtain ⟨hvolume, hbound⟩ := meterContext_bounds r (s.rawDelta h) c hflow
        rw [e, hrecipe]
        refine hx.refill hc rfl rfl (fun _ => hvolume) fun q hq _ => ?_
        cases hr.symm.trans hq
        exact hbound
      · cases hw
    · exact hx

/-! ### What an operation leaves -/

/-- The corrections, the reservation and the stored recipes stay, and so does what the law of the fills asks of each
head. -/
structure FillsKept (s t : State) : Prop where
  corrections : t.corrections = s.corrections
  reservation : t.reservation = s.reservation
  recipes : t.stored = s.stored
  heads : ∀ h, (s.head h).booked s.stored → (t.head h).booked s.stored

namespace FillsKept
variable {s t u : State}

theorem refl (s : State) : FillsKept s s := ⟨rfl, rfl, rfl, fun _ => id⟩

theorem trans (h₁ : FillsKept s t) (h₂ : FillsKept t u) : FillsKept s u where
  corrections := h₂.corrections.trans h₁.corrections
  reservation := h₂.reservation.trans h₁.reservation
  recipes := h₂.recipes.trans h₁.recipes
  heads g hg := h₁.recipes ▸ h₂.heads g (h₁.recipes ▸ h₁.heads g hg)

theorem stored_of_slots (hslots : t.slots = s.slots) : t.stored = s.stored := by
  unfold State.stored State.slot; rw [hslots]

/-- Fields other than the corrections, the reservation, the slots and the heads may be written. -/
theorem elsewhere (h : FillsKept s t) (hcorrections : u.corrections = t.corrections := by rfl)
    (hreservation : u.reservation = t.reservation := by rfl) (hslots : u.slots = t.slots := by rfl)
    (hheads : u.heads = t.heads := by rfl) : FillsKept s u :=
  h.trans ⟨hcorrections, hreservation, stored_of_slots hslots, fun g => by unfold State.head; rw [hheads]; exact id⟩

theorem foldl {α : Type} {f : State → α → State} (hf : ∀ u a, FillsKept u (f u a)) :
    ∀ (l : List α) (s : State), FillsKept s (l.foldl f s)
  | [], s => refl s
  | a :: l, s => (hf s a).trans (foldl hf l (f s a))

/-- An operation at one head that leaves this head as the law asks. -/
theorem of_takes {h : HeadId} (ht : HeadTakes h s t)
    (hself : (s.head h).booked s.stored → (t.head h).booked s.stored) : FillsKept s t where
  corrections := ht.corrections
  reservation := by rw [ht.frame]
  recipes := funext ht.recipes
  heads g hg := by
    by_cases e : g = h
    · subst e; exact hself hg
    · rw [(ht.others g e).1]; exact hg

/-! ### The shared operations -/

theorem updHead (s : State) (h : HeadId) {f : Head → Head}
    (hf : (s.head h).booked s.stored → (f (s.head h)).booked s.stored) : FillsKept s (s.updHead h f) := by
  refine ⟨rfl, rfl, rfl, fun g hg => ?_⟩
  rw [State.head_updHead]
  split
  · next e => subst e; exact hf hg
  · exact hg

theorem enter (s : State) (h : HeadId) (c : CycleState) (tm : Option Timer) : FillsKept s (s.enter h c tm) :=
  of_takes (.enter s h c tm) fun hx => by rw [State.head_enter, if_pos rfl]; exact hx

theorem goIdle (s : State) (h : HeadId) : FillsKept s (s.goIdle h) :=
  of_takes (.goIdle s h) fun hx => by rw [State.head_goIdle, if_pos rfl]; exact hx.unfilled

theorem clearHeads (s : State) : FillsKept s s.clearHeads :=
  ⟨by simp, by simp, stored_of_slots (by simp), fun g hg => by rw [State.head_clearHeads]; exact hg.unfilled⟩

theorem fileReport (s : State) (r : Report) : FillsKept s (s.fileReport r) := by
  rw [State.fileReport_eq]; exact (refl s).elsewhere

theorem countFault (s : State) (h : HeadId) (v : Verdict) : FillsKept s (s.countFault h v) := by
  have hframe := State.countFault_eq s h v
  refine ⟨by rw [hframe], by rw [hframe], stored_of_slots (by rw [hframe]), fun g hg => ?_⟩
  rw [head_countFault]
  split
  · next e => subst e; exact hg
  · exact hg

theorem reportFill (s : State) (h : HeadId) (v : Verdict) : FillsKept s (s.reportFill h v) := by
  unfold State.reportFill
  split
  · exact refl s
  · exact ((fileReport s _).trans (updHead _ h .unfilled)).trans (countFault _ h v)

theorem reportSkipped (s : State) (h : HeadId) : FillsKept s (s.reportSkipped h) := by
  unfold State.reportSkipped State.reportUnfilled
  dsimp only
  split
  · exact (fileReport s _).trans (countFault _ h _)
  · exact refl s

theorem endDraining (s : State) : FillsKept s s.endDraining :=
  (((refl s).elsewhere (u := s.setMode .standby)).trans (foldl reportSkipped allHeads _)).trans (clearHeads _)

theorem judgeDrain (s : State) : FillsKept s s.judgeDrain := by
  unfold State.judgeDrain
  split
  · exact endDraining s
  · exact refl s

theorem leaveFlight (s : State) (h : HeadId) (c : CycleState) (tm : Option Timer) :
    FillsKept s (s.leaveFlight h c tm) := (enter s h c tm).trans (judgeDrain _)

theorem leaveToIdle (s : State) (h : HeadId) : FillsKept s (s.leaveToIdle h) := (goIdle s h).trans (judgeDrain _)

/-- A PRESSURIZE entry begins its fill on the slot the head takes up (R27, R51, R99). -/
theorem enterPressurize (s : State) (h : HeadId) : FillsKept s (s.enterPressurize h) := by
  cases hw : (s.head h).windowSlot with
  | none => rw [enterPressurize_none hw]; exact refl s
  | some k =>
    have hk := windowSlot_eq_some.mp hw
    refine of_takes (.enterPressurize s h) fun hx => ?_
    rw [(State.enterPressurize_spec hk).2.1]
    have hnames : (s.head h).names k = true := by
      unfold Head.names
      rcases hk with hk | hk <;> simp [hk]
    exact hx.begun (c := latchedContext s h k (s.fillTarget k) (s.head h).pendingSlot.isSome) hnames rfl rfl rfl

theorem enterClosing (s : State) (h : HeadId) (late : Bool) : FillsKept s (s.enterClosing h late) := by
  unfold State.enterClosing
  split
  · exact refl s
  · next c hc =>
    refine trans (updHead s h fun hx => ?_) (enter _ h _ _)
    exact hx.refill hc rfl rfl id fun _ _ => id

theorem abortFill (s : State) (h : HeadId) (v : Verdict) : FillsKept s (s.abortFill h v) := by
  unfold State.abortFill
  split
  · exact refl s
  · exact (reportFill s h v).elsewhere.trans (leaveFlight _ h _ _)

theorem endFill (s : State) (h : HeadId) (v : Verdict) : FillsKept s (s.endFill h v) :=
  (reportFill s h v).trans (leaveToIdle _ h)

theorem endRun (s : State) (h : HeadId) (o : CalOutcome) (u : CalState) : FillsKept s (s.endRun h o u) := by
  unfold State.endRun
  split
  · exact refl s
  · exact (goIdle s h).elsewhere

theorem finishSnift (s : State) (h : HeadId) : FillsKept s (s.finishSnift h) := by
  unfold State.finishSnift State.completeRun
  split
  · exact refl s
  · split
    · split
      · exact refl s
      · exact endRun s h _ _
    · exact (reportFill s h _).trans (leaveFlight _ h _ _)

/-! ### Halts, the calibration and the cleaning -/

theorem reportHalted (s : State) (h : HeadId) : FillsKept s (s.reportHalted h) := by
  have halted : FillsKept s (State.reportHalted.halted h s) := by
    unfold State.reportHalted.halted
    split
    · exact refl s
    · exact reportFill s h _
  unfold State.reportHalted
  cases (s.head h).cycle with
  | pressurize | fillSoft | fillFast | fillTopUp | closing | snift => exact halted
  | skip => exact reportSkipped s h
  | _ => exact refl s

theorem haltHeads (s : State) : FillsKept s s.haltHeads := (foldl reportHalted allHeads s).trans (clearHeads _)

theorem endCalibration (s : State) : FillsKept s s.endCalibration := by
  have abandoned : FillsKept s s.abandonRun := by
    unfold State.abandonRun
    split
    · split
      · exact endRun s _ _ _
      · exact refl s
    · exact refl s
  exact abandoned.elsewhere

theorem haltAll (s : State) : FillsKept s s.haltAll := by
  have halted := (endCalibration s).trans (haltHeads s.endCalibration)
  unfold State.haltAll
  generalize s.endCalibration.haltHeads = t at halted ⊢
  exact halted.elsewhere

theorem releaseDriven (s : State) : FillsKept s s.releaseDriven := foldl goIdle _ s

theorem driveTo (s : State) (c : CycleState) : FillsKept s (s.driveTo c) := foldl (fun u h => enter u h c none) _ s

theorem endCleaningEarly (s : State) : FillsKept s s.endCleaningEarly := by
  have released := releaseDriven s
  unfold State.endCleaningEarly
  generalize s.releaseDriven = t at released ⊢
  exact released.elsewhere

theorem endCycle (s : State) (plan : CleaningPlan) : FillsKept s (s.endCycle plan) := by
  have released := releaseDriven s
  unfold State.endCycle State.nextCycle State.completeCleaning
  split
  · exact trans (refl s).elsewhere (driveTo _ _)
  · generalize s.releaseDriven = t at released ⊢
    exact released.elsewhere

theorem endOpenPhase (s : State) (plan : CleaningPlan) : FillsKept s (s.endOpenPhase plan) := by
  unfold State.endOpenPhase
  dsimp only
  split
  · exact trans (refl s).elsewhere (endCycle _ plan)
  · exact trans (refl s).elsewhere (driveTo _ _)

theorem dropTerminals (s : State) : FillsKept s s.dropTerminals :=
  (refl s).elsewhere (by simp) (by simp) (by simp) (by simp)

theorem losePower (s : State) : FillsKept s s.losePower := by
  have dropped := dropTerminals s
  unfold State.losePower
  generalize s.dropTerminals = t at dropped ⊢
  exact trans dropped.elsewhere (haltAll _)

theorem deriveTerminalsWhere (s : State) (p : Head → Bool) : FillsKept s (s.deriveTerminalsWhere p) :=
  (refl s).elsewhere (by simp) (by simp) (by simp) (by simp)

theorem regainPower (s : State) : FillsKept s s.regainPower := by
  unfold State.regainPower
  refine trans ?_ (deriveTerminalsWhere _ _)
  exact (refl s).elsewhere

/-! ### The encoder -/

theorem beginPass (s : State) (h : HeadId) : FillsKept s (s.beginPass h) := by
  unfold State.beginPass
  dsimp only
  split
  · exact (updHead s h id).trans (enter _ h _ _)
  · split
    · exact enterPressurize s h
    · split
      · exact enter s h _ _
      · exact refl s

theorem infeed (s : State) (h : HeadId) : FillsKept s (s.infeed h) := by
  unfold State.infeed
  split
  · exact beginPass s h
  · exact (goIdle s h).trans (beginPass _ h)
  all_goals exact refl s

theorem latestClose (s : State) (h : HeadId) : FillsKept s (s.latestClose h) := by
  unfold State.latestClose
  split
  · exact enterClosing s h true
  · exact refl s

theorem discharge (s : State) (h : HeadId) : FillsKept s (s.discharge h) := by
  unfold State.discharge
  cases (s.head h).cycle with
  | waitBottle => exact leaveToIdle s h
  | skip => exact (reportSkipped s h).trans (goIdle _ h)
  | pressurize | fillSoft | fillFast | fillTopUp | closing | snift => exact endFill s h _
  | done | aborted => exact goIdle s h
  | idle | cleanOpen | cleanPause => exact refl s

theorem takeArrival (s : State) (a : Arrival) : FillsKept s (s.takeArrival a) := by
  unfold State.takeArrival
  split
  · split
    · exact infeed s _
    · exact latestClose s _
    · exact discharge s _
  · exact refl s

theorem stepForward (s : State) : FillsKept s s.stepForward := by
  unfold State.stepForward
  dsimp only
  split
  · exact (refl s).elsewhere
  · split
    · unfold State.cross
      refine trans ?_ (foldl takeArrival _ _)
      exact (refl s).elsewhere
    · exact (refl s).elsewhere

theorem faultTracker (s : State) : FillsKept s s.faultTracker := by
  unfold State.faultTracker
  dsimp only
  generalize ht : State.raise { s with tracker := { s.tracker with status := .faulted } } .encoderFault = t
  have latched : FillsKept s t := by rw [← ht]; exact (refl s).elsewhere
  have halted := latched.trans (haltHeads t)
  generalize t.haltHeads = v at halted ⊢
  cases t.mode with
  | standby => exact latched.elsewhere
  | production | draining => exact halted.elsewhere
  | halted | cleaning | calibration => exact latched

theorem stepBackward (s : State) : FillsKept s s.stepBackward := by
  unfold State.stepBackward
  dsimp only
  split
  · refine trans ?_ (faultTracker _)
    exact (refl s).elsewhere
  · exact (refl s).elsewhere

theorem checkIndex (s : State) : FillsKept s s.checkIndex := by
  unfold State.checkIndex
  dsimp only
  split
  · exact (refl s).elsewhere
  · split
    · refine trans ?_ (faultTracker _)
      exact (refl s).elsewhere
    · exact (refl s).elsewhere

theorem markIndex (s : State) : FillsKept s s.markIndex := by
  have stepped := stepForward s
  unfold State.markIndex
  generalize s.stepForward = t at stepped ⊢
  split
  · exact stepped.elsewhere
  · exact stepped.trans (checkIndex t)

/-! ### Contacts and the vent -/

theorem contactCame (s : State) (h : HeadId) : FillsKept s (s.contactCame h) := by
  unfold State.contactCame State.startRun
  split
  · split
    · split
      · exact refl s
      · exact (enterPressurize s h).elsewhere
    · exact refl s
  · split
    · split
      · exact (updHead s h id).trans (leaveFlight _ h _ _)
      · exact enterPressurize s h
    · exact updHead s h id
    all_goals exact refl s

theorem contactWent (s : State) (h : HeadId) : FillsKept s (s.contactWent h) := by
  have burst : FillsKept s (s.burst h) := by
    unfold State.burst
    split
    · exact endRun s h _ _
    · exact abortFill s h _
  unfold State.contactWent
  cases (s.head h).cycle with
  | pressurize | fillSoft | fillFast | fillTopUp | closing => exact burst
  | snift =>
    dsimp only
    split
    · exact endRun s h _ _
    · exact endFill s h _
  | _ => exact refl s

theorem endVent (s : State) (h : HeadId) : FillsKept s (s.endVent h) :=
  (updHead s h (f := fun x => { x with timer := none }) id).elsewhere

/-! ### The scan -/

theorem scanLanes (s : State) (b : BankId) : FillsKept s (s.scanLanes b) := by
  refine ⟨by simp, by simp, stored_of_slots (by simp), fun g hg => ?_⟩
  rw [head_scanLanes]
  split
  · exact booked_meteredHead hg
  · exact hg

theorem takeDecision (s : State) (h : HeadId) (d : Decision) : FillsKept s (s.takeDecision d h) := by
  cases d with
  | stay => exact refl s
  | close => exact enterClosing s h false
  | toTopUp => exact enter s h _ _
  | toFast => exact enter s h _ _
  | abortStuck =>
    unfold State.takeDecision State.stuckAbort
    dsimp only
    split
    · exact endRun s h _ _
    · exact abortFill s h _

theorem scanBank (s : State) (b : BankId) : FillsKept s (s.scanBank b) := by
  have moved := (scanLanes s b).trans (foldl (fun u h => takeDecision u h (s.decision h)) (s.movedBy b) _)
  exact trans moved.elsewhere (foldl (fun u h => takeDecision u h .abortStuck) _ _)

end FillsKept

end Sys2Proof.Machine
end

section
/-! PROPERTY. The law of the fills (R51, R55, R56, R70, R76, R92, R99) through every step. -/

namespace Sys2Proof.Machine

/-! ### The law beside the heads and the counts -/

/-- What the law of the fills asks beside the laws of the heads and of the counts. -/
structure BooksLaw (s : State) : Prop where
  table : CorrectionTableLaw s
  heads : ∀ h, (s.head h).booked s.stored
  empties : ∀ h k, s.stored k = none → s.correction h k = 0

theorem fillsLaw_iff {s : State} : FillsLaw s ↔ HeadsLaw s ∧ CountsLaw s ∧ BooksLaw s := by
  constructor
  · rintro ⟨hheads, hcounts, htable, hfits, hempties⟩
    refine ⟨hheads, hcounts, htable, fun h => ⟨fun k hk => hcounts.loaded (h := h) ?_, hfits h⟩, hempties⟩
    simpa [Head.names] using hk
  · rintro ⟨hheads, hcounts, hbooks⟩
    exact ⟨hheads, hcounts, hbooks.table, fun h => (hbooks.heads h).2, hbooks.empties⟩

theorem FillsKept.correction {s t : State} (hk : FillsKept s t) (h : HeadId) (k : SlotId) :
    t.correction h k = s.correction h k := by
  unfold State.correction; rw [hk.corrections]

theorem FillsKept.correctionTableLaw {s t : State} (hk : FillsKept s t) (hs : CorrectionTableLaw s) :
    CorrectionTableLaw t := by
  refine ⟨fun h k => ?_, fun h k hr => ?_⟩
  · rw [hk.correction]; exact hs.1 h k
  · have hloaded := hs.2 h k (hk.reservation ▸ hr)
    rwa [show (t.slot k).recipe = (s.slot k).recipe from congrFun hk.recipes k]

theorem FillsKept.booksLaw {s t : State} (hk : FillsKept s t) (hs : BooksLaw s) : BooksLaw t where
  table := hk.correctionTableLaw hs.table
  heads h := hk.recipes ▸ hk.heads h (hs.heads h)
  empties h k hn := (hk.correction h k).trans (hs.empties h k (hk.recipes ▸ hn))

/-- The entries of LOADED slots may be written within their bounds, and the reservation moved to a LOADED slot or
removed. -/
theorem BooksLaw.tables {s t : State} (hs : BooksLaw s)
    (hentry : ∀ h k, t.correction h k = s.correction h k ∨
      ((s.stored k).isSome = true ∧ -20000000 ≤ t.correction h k ∧ t.correction h k ≤ 20000000))
    (hreserved : ∀ h k, t.reservation = some (h, k) → s.reservation = some (h, k) ∨ (s.stored k).isSome = true)
    (hheads : t.heads = s.heads := by rfl) (hslots : t.slots = s.slots := by rfl) : BooksLaw t := by
  have hstored : t.stored = s.stored := FillsKept.stored_of_slots hslots
  refine ⟨⟨fun h k => ?_, fun h k hr => ?_⟩, fun h => ?_, fun h k hn => ?_⟩
  · rcases hentry h k with he | ⟨-, he⟩
    · rw [he]; exact hs.table.1 h k
    · exact he
  · show (t.stored k).isSome = true
    rw [hstored]
    exact (hreserved h k hr).elim (hs.table.2 h k) id
  · rw [hstored, show t.head h = s.head h from congrArg (fun v : Vector Head 64 => v[h]) hheads]
    exact hs.heads h
  · rw [hstored] at hn
    rcases hentry h k with he | ⟨hloaded, -⟩
    · rw [he]; exact hs.empties h k hn
    · rw [hn] at hloaded; cases hloaded

/-- The column of a LOADED slot may be written within the bounds, and the reservation removed. -/
theorem putColumn_booksLaw {s : State} (hs : BooksLaw s) {k : SlotId} (hk : (s.stored k).isSome = true)
    {col : Vector Int 64} (hcol : ∀ h : HeadId, -20000000 ≤ col[h] ∧ col[h] ≤ 20000000)
    {reservation : Option (HeadId × SlotId)}
    (hreserved : ∀ h j, reservation = some (h, j) → s.reservation = some (h, j)) :
    BooksLaw { s.putColumn k col with reservation := reservation } := by
  have hentry : ∀ h j, ({ s.putColumn k col with reservation := reservation } : State).correction h j =
      if j = k then col[h] else s.correction h j := fun h j => State.correction_putColumn s h k j col
  refine hs.tables (fun h j => ?_) fun h j hr => .inl (hreserved h j hr)
  rw [hentry]
  split
  · next e => exact .inr ⟨e ▸ hk, hcol h⟩
  · exact .inl rfl

/-- The events of R73 and R74 leave the reservation or remove it, and leave none on their slot. -/
theorem reservationWithout_eq_some {k j : SlotId} {r : Option (HeadId × SlotId)} {h : HeadId} :
    reservationWithout k r = some (h, j) ↔ r = some (h, j) ∧ j ≠ k := by
  unfold reservationWithout
  split
  · next g i =>
    split
    · next e =>
      refine ⟨fun hn => (nomatch hn), fun ⟨hr, hne⟩ => ?_⟩
      cases hr
      exact absurd e hne
    · next e =>
      refine ⟨fun hr => ⟨hr, ?_⟩, And.left⟩
      cases hr
      exact e
  · exact ⟨fun hn => (nomatch hn), fun hn => (nomatch hn.1)⟩

/-! ### The settle expiry -/

theorem clampCorrection_bounds (v : Int) : -20000000 ≤ clampCorrection v ∧ clampCorrection v ≤ 20000000 := by
  rw [clampCorrection_eq]; exact boundedCorrection_bounds v

/-- The learning step writes the entry of a fill, whose slot is LOADED (R71, R99). -/
theorem learnt_booksLaw {s : State} (hs : BooksLaw s) {h : HeadId} {c : FillContext} (hc : (s.head h).fill = some c) :
    BooksLaw (s.learnt h c) := by
  obtain ⟨hframe, hentries⟩ := s.learn_spec h c
  obtain ⟨-, -, -, r, hr, -⟩ := (hs.heads h).2 c hc
  have hheads : (s.learn h c).heads = s.heads := by rw [hframe]
  have hslots : (s.learn h c).slots = s.slots := by rw [hframe]
  have learned : BooksLaw (s.learn h c) := by
    refine hs.tables (fun g k => ?_) (fun g k hres => .inl ?_) hheads hslots
    · rw [hentries]
      split
      · next e => exact .inr ⟨by rw [e.2.1, hr]; rfl, boundedCorrection_bounds _⟩
      · exact .inl rfl
    · rw [hframe] at hres
      dsimp only at hres
      split at hres
      · cases hres
      · exact hres
  have hfill : ((s.learn h c).head h).fill = some c :=
    (congrArg (fun v : Vector Head 64 => v[h].fill) hheads).trans hc
  refine FillsKept.booksLaw (.updHead _ h fun hx => ?_) learned
  exact hx.refill (d := learnedContext (s.recipe c.slot) c) hfill rfl rfl id fun _ _ => id

theorem finishSettle_booksLaw {s : State} (hs : BooksLaw s) (h : HeadId) : BooksLaw (s.finishSettle h) := by
  cases hc : (s.head h).fill with
  | none =>
    have e : s.finishSettle h = s := by unfold State.finishSettle; rw [hc]
    rw [e]; exact hs
  | some c =>
    have settled : ∀ t, BooksLaw t → BooksLaw (if (s.recipe c.slot).sniftDwell = 0 then t.finishSnift h
        else t.enter h .snift (some ⟨.sniftDwell, (s.recipe c.slot).sniftDwell⟩)) := by
      intro t ht
      split
      · exact FillsKept.booksLaw (.finishSnift t h) ht
      · exact FillsKept.booksLaw (.enter t h _ _) ht
    by_cases hm : s.mode = .calibration
    · rw [finishSettle_calibration hc hm]; exact settled s hs
    · rw [finishSettle_filling hc hm]; exact settled _ (learnt_booksLaw hs hc)

/-! ### Requests on slots -/

theorem CountsLaw.names_unbound {s : State} (hs : CountsLaw s) {k : SlotId} (hk : (s.slot k).bindings = 0)
    (h : HeadId) : (s.head h).names k = false := by
  obtain ⟨-, hbindings, -⟩ := hs
  have hnone := List.countP_eq_zero.mp ((hbindings k).symm.trans hk) h (mem_allHeads h)
  exact Bool.eq_false_of_not_eq_true hnone

/-- The recipes of the slots a head does not name are nothing to it. -/
theorem Head.booked.of_named {stored stored' : SlotId → Option Recipe} {x : Head} (hx : x.booked stored)
    (hsame : ∀ k, x.names k = true → stored' k = stored k) : x.booked stored' := by
  refine ⟨fun k hk => hsame k hk ▸ hx.1 k hk, fun c hc => ?_⟩
  obtain ⟨hactive, hfits⟩ := hx.2 c hc
  rw [hsame c.slot (by simp [Head.names, hactive])]
  exact ⟨hactive, hfits⟩

/-- A slot is written and its column cleared, as an accepted LOAD RECIPE or UNLOAD RECIPE does (R73, R87, R90). -/
def State.rewriteSlot (k : SlotId) (r : Option Recipe) (s : State) : State :=
  (s.putSlot k { s.slot k with recipe := r }).clearColumn k

theorem head_rewriteSlot (s : State) (k : SlotId) (r : Option Recipe) (h : HeadId) :
    (s.rewriteSlot k r).head h = s.head h := by
  unfold State.rewriteSlot; rw [clearColumn_eq]; rfl

theorem reservation_rewriteSlot (s : State) (k : SlotId) (r : Option Recipe) :
    (s.rewriteSlot k r).reservation = reservationWithout k s.reservation := by
  unfold State.rewriteSlot; rw [clearColumn_eq]; rfl

theorem stored_rewriteSlot (s : State) (k j : SlotId) (r : Option Recipe) :
    (s.rewriteSlot k r).stored j = if j = k then r else s.stored j := by
  unfold State.rewriteSlot
  rw [clearColumn_eq]
  show ((s.putSlot k { s.slot k with recipe := r }).slot j).recipe = _
  rw [State.slot_putSlot, apply_ite Slot.recipe]
  rfl

theorem correction_rewriteSlot (s : State) (k j : SlotId) (r : Option Recipe) (h : HeadId) :
    (s.rewriteSlot k r).correction h j = if j = k then 0 else s.correction h j := by
  unfold State.rewriteSlot
  rw [clearColumn_eq]
  refine (State.correction_putColumn _ h k j zeroColumn).trans ?_
  rw [show zeroColumn[h] = 0 by simp [zeroColumn]]
  rfl

/-- An unbound slot may be written: no head names it, and its entries are 0 afterwards. -/
theorem rewriteSlot_booksLaw {s : State} (hs : BooksLaw s) (hcounts : CountsLaw s) {k : SlotId}
    (hk : (s.slot k).bindings = 0) (r : Option Recipe) : BooksLaw (s.rewriteSlot k r) := by
  refine ⟨⟨fun h j => ?_, fun h j hres => ?_⟩, fun h => ?_, fun h j hn => ?_⟩
  · rw [correction_rewriteSlot]
    split
    · decide
    · exact hs.table.1 h j
  · rw [reservation_rewriteSlot] at hres
    obtain ⟨hr, hne⟩ := reservationWithout_eq_some.mp hres
    show ((s.rewriteSlot k r).stored j).isSome = true
    rw [stored_rewriteSlot, if_neg hne]
    exact hs.table.2 h j hr
  · rw [head_rewriteSlot]
    refine (hs.heads h).of_named fun j hj => (stored_rewriteSlot s k j r).trans (if_neg ?_)
    rintro rfl
    rw [hcounts.names_unbound hk h] at hj
    cases hj
  · rw [correction_rewriteSlot]
    split
    · rfl
    · next hne => exact hs.empties h j (by rw [stored_rewriteSlot, if_neg hne] at hn; exact hn)

/-- A head's slots may change to LOADED ones, the active slot only while no fill runs. -/
theorem Head.booked.assigned {stored : SlotId → Option Recipe} {x : Head} (hx : x.booked stored)
    {a p : Option SlotId} (hloaded : ∀ k, a = some k ∨ p = some k → (stored k).isSome = true)
    (hactive : x.fill.isSome = true → a = x.active) : { x with active := a, pendingSlot := p }.booked stored := by
  refine ⟨fun k hk => hloaded k (by simpa [Head.names] using hk), fun c hc => ?_⟩
  obtain ⟨hself, hfits⟩ := hx.2 c hc
  exact ⟨(hactive (isSome_of_fill hc)).trans hself, hfits⟩

/-- A BIND to a slot leaves a filling head on its active slot until its next PRESSURIZE entry (R96 to R98). -/
theorem bindHead_active {s : State} {h : HeadId} (hfill : (s.head h).fill.isSome = true)
    (hmode : s.fillingMode = true ∨ s.mode = .calibration) (k : SlotId) :
    ((bindHead (some k) s h).head h).active = (s.head h).active := by
  have later : ((bindLater k s h).head h).active = (s.head h).active := by
    unfold bindLater
    dsimp only
    split
    · next ha => rw [State.head_assignSlots, if_pos rfl]; exact ha.symm
    · rw [State.head_assignSlots, if_pos rfl]
  have e : bindHead (some k) s h = bindLater k s h := by
    unfold bindHead
    rcases hmode with hm | hm
    · rcases s.fillingMode_iff.mp hm with hm | hm <;> rw [hm]
    · rw [hm]; exact if_pos hfill
  rw [e]; exact later

/-- A BIND RECIPE is refused, or binds every named head to a LOADED slot, or to none where no named head fills
(R94). -/
theorem bindRecipe_binds (mask : HeadMask) (slot : Nat) (s : State) : (bindRecipe mask slot s).1 = s ∨
    ∃ target, (bindRecipe mask slot s).1 = bindMask mask target s ∧
      (∀ k, target = some k → (s.stored k).isSome = true) ∧
      (target = none → ∀ h, inMask mask h = true → (s.head h).fill = none) := by
  unfold bindRecipe
  split
  · next k _ =>
    split
    · exact .inl rfl
    · split
      · exact .inl rfl
      · next hr =>
        refine .inr ⟨some k, rfl, fun j hj => ?_, fun hn => nomatch hn⟩
        cases hj
        exact Option.isSome_iff_ne_none.mpr fun e => hr (by rw [show (s.slot k).recipe = none from e]; rfl)
  · split
    · split
      · exact .inl rfl
      · next hneed =>
        refine .inr ⟨none, rfl, fun k hk => (nomatch hk), fun _ h hh => ?_⟩
        unfold namesNeedful at hneed
        simp only [List.any_eq_true, Bool.and_eq_true, Bool.or_eq_true, not_exists, not_and, not_or, mem_allHeads,
          true_implies] at hneed
        simpa using (hneed h hh).1.2
    · exact .inl rfl

theorem stored_assignSlots (s : State) (h : HeadId) (a p : Option SlotId) :
    (s.assignSlots h a p).stored = s.stored := by
  funext k
  unfold State.stored
  rw [State.slot_assignSlots]

/-- The slots change at one head, and the counts with them. -/
theorem assignSlots_booksLaw {s : State} (hs : BooksLaw s) {h : HeadId} {a p : Option SlotId}
    (hself : { s.head h with active := a, pendingSlot := p }.booked s.stored) : BooksLaw (s.assignSlots h a p) := by
  refine FillsKept.booksLaw ⟨by simp, by simp, stored_assignSlots s h a p, fun g hg => ?_⟩ hs
  rw [State.head_assignSlots]
  split
  · exact hself
  · exact hg

/-- A BIND RECIPE under way from `s`: some of its heads are bound in `u`. -/
structure Binding (s u : State) : Prop where
  books : BooksLaw u
  stored : u.stored = s.stored
  mode : u.mode = s.mode
  fills : ∀ g, (u.head g).fill = (s.head g).fill

/-- The BIND of one more head: to a LOADED slot, or to none where the head does not fill. -/
theorem Binding.bindHead {s u : State} (hu : Binding s u) (hheads : HeadsLaw s) {target : Option SlotId}
    (hloaded : ∀ k, target = some k → (s.stored k).isSome = true) {h : HeadId}
    (hfree : target = none → (s.head h).fill = none) : Binding s (bindHead target u h) := by
  obtain ⟨a, p, hbind, hp, ha⟩ := bindHead_cases target u h
  have hactive : (u.head h).fill.isSome = true → a = (u.head h).active := by
    intro hf
    cases target with
    | none => rw [hu.fills, hfree rfl] at hf; cases hf
    | some k =>
      have hmode : u.fillingMode = true ∨ u.mode = .calibration := by
        unfold State.fillingMode
        rw [hu.mode]
        exact (hheads.filling (hu.fills h ▸ hf)).imp_right And.left
      have hkept := bindHead_active hf hmode k
      rwa [hbind, State.head_assignSlots, if_pos rfl] at hkept
  have hnamed : ∀ k, a = some k ∨ p = some k → (u.stored k).isSome = true := by
    rintro k (rfl | rfl)
    · rcases ha with ha | ha
      · rw [hu.stored]; exact hloaded k ha.symm
      · exact (hu.books.heads h).1 k (by simp [Head.names, ← ha])
    · rw [hu.stored]; exact hloaded k (hp k rfl).2
  rw [hbind]
  refine ⟨assignSlots_booksLaw hu.books ((hu.books.heads h).assigned hnamed hactive),
    (stored_assignSlots u h a p).trans hu.stored, (State.assignSlots_mode ..).trans hu.mode, fun g => ?_⟩
  rw [State.head_assignSlots, ← hu.fills]
  split
  · next e => subst e; rfl
  · rfl

theorem bindRecipe_booksLaw {s : State} (hs : BooksLaw s) (hheads : HeadsLaw s) (mask : HeadMask) (slot : Nat) :
    BooksLaw (bindRecipe mask slot s).1 := by
  rcases bindRecipe_binds mask slot s with e | ⟨target, e, hloaded, hfree⟩
  · rw [e]; exact hs
  · rw [e]
    have hbound : Binding s (bindMask mask target s) :=
      List.foldlRecOn _ _ ⟨hs, rfl, rfl, fun _ => rfl⟩ fun u hu h hh =>
        hu.bindHead hheads hloaded fun hn => hfree hn h (List.mem_filter.mp hh).2
    exact hbound.books

/-! ### The other requests -/

theorem HeadsLaw.unfilled_of_idle {s : State} (hs : HeadsLaw s) {h : HeadId} (hc : (s.head h).cycle = .idle) :
    (s.head h).fill = none := ((State.sound_idle hc).mp (hs.sound h)).1

/-- The meter factor of a head without a fill may change. -/
theorem Head.booked.refactored {stored : SlotId → Option Recipe} {x : Head} (hx : x.booked stored)
    (hn : x.fill = none) (p : ProfileId) (f : Nat) : { x with profile := p, factor := f }.booked stored :=
  ⟨hx.1, fun _ hc => nomatch hn.symm.trans hc⟩

theorem FillsKept.setEnable (s : State) (mask : HeadMask) {f : Head → Head}
    (hf : ∀ x : Head, x.booked s.stored → (f x).booked s.stored) : FillsKept s (s.setEnable mask f) := by
  refine ⟨by simp, by simp, stored_of_slots (by simp), fun g hg => ?_⟩
  rw [State.head_setEnable]
  split
  · exact hf _ hg
  · exact hg

/-- A request other than BIND RECIPE keeps the law. -/
theorem Served.keeps_booksLaw {s t : State} {i : Instr} (h : Served s i t)
    (hi : ∀ mask slot, i ≠ .bindRecipe mask slot) (hheads : HeadsLaw s) (hcounts : CountsLaw s) (hs : BooksLaw s) : BooksLaw t := by
  have kept : ∀ {u}, FillsKept s u → BooksLaw u := fun hk => hk.booksLaw hs
  have same := FillsKept.refl s
  cases h with
  | setValveProfile k p hm => exact kept (.trans same.elsewhere (.deriveTerminalsWhere _ _))
  | @setHead _ _ factor h p hm hf hz =>
    have hn := hheads.unfilled_of_idle (hheads.idle_of_configurable hm h)
    exact kept (FillsKept.updHead s h (f := fun x => { x with profile := p, factor := factor })
      fun hx => hx.refactored hn p factor).elsewhere
  | enableHeads mask hf => exact kept (.setEnable s mask fun _ => id)
  | disableHeads mask => exact kept (.setEnable s mask fun _ => id)
  | loadRecipe k r hb hr => exact rewriteSlot_booksLaw hs hcounts hb _
  | unloadRecipe k hb => exact rewriteSlot_booksLaw hs hcounts hb _
  | bindRecipe mask target hk => exact absurd rfl (hi _ _)
  | reserve h k hk =>
    refine hs.tables (fun _ _ => .inl rfl) fun g j hr => .inr ?_
    cases hr; exact hk
  | @writeCorrection _ _ value h k hr =>
    refine putColumn_booksLaw hs (hs.table.2 h k hr) (fun g => ?_) fun _ _ hn => nomatch hn
    rw [vector_set_get]
    split
    · exact clampCorrection_bounds _
    · exact hs.table.1 g k
  | dropReservation => exact hs.tables (fun _ _ => .inl rfl) fun _ _ hn => nomatch hn
  | restoreCorrections k values hm hk =>
    rw [State.dropReservationOn_eq]
    refine putColumn_booksLaw hs hk (fun g => ?_) fun _ _ hr => (reservationWithout_eq_some.mp hr).1
    rw [vector_ofFn_get]
    exact clampCorrection_bounds _
  | drain hm => exact kept (.trans same.elsewhere (.judgeDrain _))
  | stopCleaning hm => exact kept (FillsKept.endCleaningEarly s).elsewhere
  | halt broadcast => exact kept (.haltAll s)
  | startCleaning openTime pauseTime cycles hm hp => exact kept (.trans same.elsewhere (.driveTo _ _))
  | enterActualVolume volume h run last new hm hc hh hl hn =>
    have hidle := hheads.unfilled_of_idle (hheads.idle_of_armed hm (by rw [hc]; decide) h)
    exact kept (FillsKept.updHead s h (f := fun x => { x with factor := new })
      fun hx => hx.refactored hidle _ new).elsewhere
  | endCalibration hm => exact kept (FillsKept.endCalibration s).elsewhere
  | _ => exact kept same.elsewhere

/-! ### Resets and the step -/

theorem powerOnWith_booksLaw (pins : Pins) (s : State) : BooksLaw (s.powerOnWith pins) := by
  have hentry : ∀ h k, (s.powerOnWith pins).correction h k = 0 := fun h k => by
    show ((Vector.replicate 8 (Vector.replicate 64 (0 : Int)))[k])[h] = 0; simp
  refine ⟨⟨fun h k => ?_, fun h k hr => (nomatch hr)⟩, fun h => ?_, fun h k _ => hentry h k⟩
  · rw [hentry]; decide
  · rw [head_powerOnWith]
    exact ⟨fun k hk => by simp [Head.names, Head.powerOn] at hk, fun c hc => nomatch hc⟩

theorem restart_booksLaw {s : State} (hs : BooksLaw s) : BooksLaw s.restart := by
  have hstored : s.restart.stored = s.stored := by
    funext k
    show ((Vector.ofFn fun k : SlotId => { s.slot k with
      bindings := s.countHeads fun x => decide (x.active = some k) })[k]).recipe = _
    rw [vector_ofFn_get]; rfl
  refine ⟨⟨hs.table.1, fun h k hr => (nomatch hr)⟩, fun h => ?_, fun h k hn => hs.empties h k (hstored ▸ hn)⟩
  rw [head_restart, hstored]
  have hnamed : ∀ k, (s.head h).active = some k ∨ none = some k → (s.stored k).isSome = true := fun k hk =>
    (hs.heads h).1 k (by simp [Head.names, hk.resolve_right (Option.some_ne_none k).symm])
  exact (hs.heads h).unfilled.assigned hnamed fun _ => rfl

theorem Effect.keeps_booksLaw {fits : Prop} {s t : State} (he : Effect fits s t) (hheads : HeadsLaw s)
    (hcounts : CountsLaw s) (hs : BooksLaw s) : BooksLaw t := by
  have kept : ∀ {u}, FillsKept s u → BooksLaw u := fun hk => hk.booksLaw hs
  have same := FillsKept.refl s
  cases he with
  | none => exact hs
  | request i hi =>
    by_cases hb : ∃ mask slot, i = .bindRecipe mask slot
    · obtain ⟨mask, slot, rfl⟩ := hb
      exact bindRecipe_booksLaw hs hheads mask slot
    · exact (answerRequest_served i s).keeps_booksLaw (fun mask slot e => hb ⟨mask, slot, e⟩) hheads hcounts hs
  | halt => exact kept (.haltAll s)
  | forward => exact kept (.stepForward s)
  | backward => exact kept (.stepBackward s)
  | index => exact kept (.markIndex s)
  | quadrature => exact kept (.faultTracker s)
  | contactCame h => exact kept (.contactCame s h)
  | contactWent h => exact kept (.contactWent s h)
  | contactWindow h => exact kept (.leaveToIdle s h)
  | pressurizeDwell h => exact kept (.enter s h _ _)
  | settle h => exact finishSettle_booksLaw hs h
  | sniftDwell h => exact kept (.finishSnift s h)
  | ventDwell h => exact kept (.endVent s h)
  | tick => exact kept same.elsewhere
  | pulse lanes => exact kept same.elsewhere
  | scan b => exact kept (.scanBank s b)
  | openPhase plan => exact kept (.endOpenPhase s plan)
  | pausePhase plan => exact kept (.endCycle s plan)
  | powerLoss => exact kept (.losePower s)
  | powerReturn => exact kept (.regainPower s)
  | ready high => exact kept same.elsewhere
  | powerOn pins => exact powerOnWith_booksLaw pins s
  | lineHeld => exact kept (.dropTerminals s)
  | restart => exact restart_booksLaw hs

theorem Effect.keeps_fillsLaw {fits : Prop} {s t : State} (he : Effect fits s t) (hs : FillsLaw s) : FillsLaw t := by
  obtain ⟨hheads, hcounts, hbooks⟩ := fillsLaw_iff.mp hs
  exact fillsLaw_iff.mpr
    ⟨he.keeps_headsLaw hheads, he.keeps_countsLaw hcounts, he.keeps_booksLaw hheads hcounts hbooks⟩

/-- Settles O59: the laws of heads and counts are kept by their own proofs; the rest by what each effect leaves of the
corrections, the recipes and the fills. -/
theorem stepKeepsTheFillsLaw : Obligations.StepKeepsTheFillsLaw := fun _ _ =>
  step_keeps (fun _ _ => id) fun hs he =>
    exec_keeps_of_effect (fun hc hu => by rw [hc]; exact hu) Effect.keeps_fillsLaw hs he

end Sys2Proof.Machine
end

section
/-! PROPERTY. A calibration run: its start at a contact arrival (R51, R154), its completion (R156) and its end by a
contact loss (R157). -/

namespace Sys2Proof.Machine

variable {s : State} {h : HeadId}

/-- In CALIBRATION only the armed head takes notice of a contact arrival (R154). -/
theorem contactCame_unarmed (hm : s.mode = .calibration) (hc : s.cal.state ≠ .armed ∨ s.cal.head ≠ some h) :
    s.contactCame h = s := by
  unfold State.contactCame
  rw [if_pos hm]
  exact if_neg fun ha => hc.elim (absurd ha.1) (absurd ha.2)

/-- At the armed head, which has a slot, the run starts (R154). -/
theorem contactCame_armed (hm : s.mode = .calibration) (ha : s.cal.state = .armed) (hh : s.cal.head = some h)
    {k : SlotId} (hw : (s.head h).windowSlot = some k) :
    s.contactCame h = { s.enterPressurize h with cal := { s.cal with state := .dosing } } := by
  unfold State.contactCame State.startRun
  rw [if_pos hm, if_pos ⟨ha, hh⟩]
  refine if_neg fun hn => ?_
  exact absurd ((windowSlot_none hn).symm.trans hw) (Option.some_ne_none k).symm

theorem fillTarget_of_calibration (hm : s.mode = .calibration) {τ : Nat} (hτ : s.cal.target = some τ) (k : SlotId) :
    s.fillTarget k = τ * 1000 := by
  unfold State.fillTarget
  rw [if_pos hm, hτ]
  rfl

/-- The start of a run at a head in IDLE (R51, R154). -/
theorem runStarted (hm : s.mode = .calibration) (ha : s.cal.state = .armed) (hh : s.cal.head = some h)
    (hidle : (s.head h).cycle = .idle) {k : SlotId} {τ : Nat}
    (hk : (s.head h).pendingSlot = some k ∨ ((s.head h).pendingSlot = none ∧ (s.head h).active = some k))
    (hτ : s.cal.target = some τ) :
    let t := s.contactCame h
    OnlyHead h s t { s with
        slots := t.slots
        pendingChangeovers := t.pendingChangeovers
        inFlight := s.inFlight + 1
        cal := { s.cal with state := .dosing } } ∧
      t.head h = { s.head h with
        active := some k
        pendingSlot := none
        cycle := if (s.recipe k).pressurizeDwell = 0 then .fillSoft else .pressurize
        timer := if (s.recipe k).pressurizeDwell = 0 then none
          else some ⟨.pressurizeDwell, (s.recipe k).pressurizeDwell⟩
        fill := some (latchedContext s h k (τ * 1000) (s.head h).pendingSlot.isSome) } ∧
      (∀ j, (t.slot j).recipe = (s.slot j).recipe) ∧
      ((s.head h).pendingSlot = none → t.slots = s.slots ∧ t.pendingChangeovers = s.pendingChangeovers) := by
  intro t
  have ht : t = { s.enterPressurize h with cal := { s.cal with state := .dosing } } :=
    contactCame_armed hm ha hh (windowSlot_eq_some.mpr hk)
  obtain ⟨⟨hothers, hframe⟩, hhead, -⟩ := State.enterPressurize_spec hk
  obtain ⟨-, -, -, -, hkept, -⟩ := s.adopt_spec h
  have hrecipes := (HeadTakes.enterPressurize s h).recipes
  rw [hidle] at hframe
  rw [fillTarget_of_calibration hm hτ] at hhead
  rw [ht]
  generalize s.enterPressurize h = u at hothers hframe hhead hrecipes ⊢
  have hslots : u.slots = (s.adopt h).slots := by rw [hframe]
  have hcount : u.pendingChangeovers = (s.adopt h).pendingChangeovers := by rw [hframe]
  refine ⟨⟨hothers, ?_⟩, hhead, hrecipes, fun hp => ?_⟩
  · rw [hframe]; rfl
  · rw [hslots, hcount]; exact hkept hp

/-- A contact loss ends a run (R157). -/
theorem contactWent_runEnded {c : FillContext} (hm : s.mode = .calibration) (hfill : (s.head h).fill = some c)
    (hc : (s.head h).cycle.holdsFill = true) : RunEnded s h c .abortedContact .armed (s.contactWent h) := by
  rw [contactWent_calibration hm hc]
  obtain ⟨hhead, hopen, hothers, hframe⟩ := State.endRun_spec hfill .abortedContact .armed
  rw [CycleState.inFlight_of_holdsFill hc] at hframe
  exact ⟨hhead, hopen, hothers, hframe⟩

/-- Settles O21: the arrival by whether the head is armed, then the two ends of a run. -/
theorem calibrationRunStartsAndEnds : Obligations.CalibrationRunStartsAndEnds := by
  refine ⟨fun h s hs hcontact hm => ?_, fun h s c hs hm hfill hholds => ⟨fun hc ht => ?_, fun hcontact => ?_⟩⟩
  · rw [exec_contactArrival hs hcontact]
    refine ⟨fun hc => congrArg _ (contactCame_unarmed (s := s.withContact h true) hm hc),
      fun ha hh hidle k τ hk hτ => ⟨_, rfl, ?_⟩⟩
    exact runStarted (s := s.withContact h true) hm ha hh hidle hk hτ
  · exact ⟨s.finishSnift h, congrArg _ (onExpiry_running hs hc ht _),
      finishSnift_runEnded hfill (CycleState.inFlight_of_holdsFill hholds) hm⟩
  · exact ⟨_, exec_contactLoss hs hcontact, contactWent_runEnded (s := s.withContact h false) hm hfill hholds⟩

end Sys2Proof.Machine
end

section
/-! PROPERTY. Scans that decide nothing at a head: in CLOSING, and on lanes that meter no fill (R47 to R50, R62, R138,
R166). -/

namespace Sys2Proof.Machine

variable {b : BankId} {s : State} {h : HeadId}

/-! ### A head without a decision -/

theorem not_stuckAt_of_noFillStage (hstage : (s.head h).cycle.isFillStage = false) : ¬ s.stuckAt h = true := by
  intro hs
  rw [(stuckAt_fill hs).2] at hstage
  cases hstage

/-- A close or a change of stage touches its own head alone. -/
theorem HeadTakes.takeDecision (s : State) (h : HeadId) {d : Decision} (hd : d ≠ .abortStuck) :
    HeadTakes h s (s.takeDecision d h) := by
  cases d with
  | stay => exact refl s h
  | close => exact enterClosing s h false
  | toTopUp => exact enter s h _ _
  | toFast => exact enter s h _ _
  | abortStuck => exact absurd rfl hd

/-- Before the aborts a head without a decision has the outputs it had. -/
theorem output_beforeAborts (hstay : s.decision h = .stay) : (s.beforeAborts b).output h = s.output h := by
  rw [(head_beforeAborts_moved b s h).2]
  refine List.foldlRecOn (motive := fun t : State => t.output h = s.output h) _ _ (output_scanLanes s b h)
    fun t ht g hg => ?_
  by_cases e : h = g
  · subst e
    rw [hstay]; exact ht
  · have hd : s.decision g ≠ .abortStuck := fun hd => (mem_movedBy.mp hg).2 ((decision_abort_iff s g).mp hd)
    exact ((HeadTakes.takeDecision t g hd).others h e).2.trans ht

/-- Outside the fill stages the lanes' work is all a scan does before the aborts. -/
theorem beforeAborts_noFillStage (hbank : h.val / 16 = b.val) (hstage : (s.head h).cycle.isFillStage = false) :
    (s.beforeAborts b).head h = s.meteredHead h ∧ (s.beforeAborts b).output h = s.output h := by
  have hstay := decision_noFillStage hstage
  refine ⟨?_, output_beforeAborts hstay⟩
  rw [head_beforeAborts hbank, if_neg (not_stuckAt_of_noFillStage hstage), hstay]
  rfl

/-! ### A scan, whether or not heads are in flight -/

/-- Where no head is in flight a scan aborts nothing. -/
theorem scanBank_noFlight (hflight : ¬∃ g, (s.head g).cycle.inFlight = true) : s.scanBank b = s.beforeAborts b := by
  have hnone : s.stuckHeads b = [] := List.eq_nil_iff_forall_not_mem.mpr fun g hg =>
    hflight ⟨g, (List.mem_filter.mp (stuckHeads_subset b s hg)).2⟩
  rw [scanBank_eq, hnone]
  rfl

/-- While DRAINING does not end, a head that the scan does not abort stands as before the aborts. -/
theorem scanBank_spared (hcount : s.mode = .draining → s.flightCounted) (hends : ¬scanEndsDraining b s)
    (hstuck : ¬ s.stuckAt h = true) : (s.scanBank b).head h = (s.beforeAborts b).head h ∧
      (s.scanBank b).output h = (s.beforeAborts b).output h := by
  by_cases hflight : ∃ g, (s.head g).cycle.inFlight = true
  · exact (scanBank_others hcount hflight hends).2 h fun hmem => hstuck (mem_stuckHeads.mp hmem).2
  · rw [scanBank_noFlight hflight]; exact ⟨rfl, rfl⟩

/-- The aborts of a scan write no lane and no cleaning counter. -/
theorem scanBank_lanes (hcount : s.mode = .draining → s.flightCounted) :
    (s.scanBank b).lanes = (s.scanLanes b).lanes ∧ (s.scanBank b).cleaning = (s.scanLanes b).cleaning := by
  by_cases hflight : ∃ g, (s.head g).cycle.inFlight = true
  · rw [scanBank_frame hcount hflight]; exact ⟨rfl, rfl⟩
  · rw [scanBank_noFlight hflight, beforeAborts_frame]; exact ⟨rfl, rfl⟩

/-- A scan takes the sample of each lane of its bank (R48). -/
theorem lane_scanBank_sampled (hcount : s.mode = .draining → s.flightCounted) (hbank : h.val / 16 = b.val) :
    (s.scanBank b).lane h = ⟨(s.lane h).counter, (s.lane h).counter⟩ := by
  unfold State.lane
  rw [(scanBank_lanes hcount).1]
  exact (vector_ofFn_get _ h).trans (if_pos hbank)

theorem counter_scanLanes (hbank : h.val / 16 = b.val) :
    (s.scanLanes b).cleaning.counters[h] = s.cleanedVolume h :=
  (vector_ofFn_get _ h).trans (if_pos hbank)

/-! ### CLOSING -/

/-- In CLOSING a scan meters, and nothing else (R62). -/
theorem meteredHead_closing {c : FillContext} (hc : (s.head h).cycle = .closing) (hfill : (s.head h).fill = some c) :
    s.meteredHead h = { s.head h with fill := some (meterContext (s.recipe c.slot) (s.rawDelta h) c) } := by
  unfold State.meteredHead State.laneWork
  rw [hfill, hc]
  rfl

/-- Settles O29: the head has no decision and stays in flight, so what is left of the scan is the metering. -/
theorem scanInClosingOnlyMeters : Obligations.ScanInClosingOnlyMeters := by
  intro h b s c hs hcount hbank hc hfill r raw inc
  have hstage : (s.head h).cycle.isFillStage = false := by rw [hc]; rfl
  have hstuck := not_stuckAt_of_noFillStage hstage
  have hends : ¬scanEndsDraining b s := fun hends => hstuck (hends.2.2 h (by rw [hc]; rfl)).2
  obtain ⟨hhead, hout⟩ := scanBank_spared hcount hends hstuck
  obtain ⟨ehead, eout⟩ := beforeAborts_noFillStage hbank hstage
  refine ⟨s.scanBank b, congrArg _ (event_of_running hs _), ?_, hout.trans eout, lane_scanBank_sampled hcount hbank⟩
  have hraw : s.rawDelta h = raw := rawDelta_eq s h
  rw [hhead, ehead, meteredHead_closing hc hfill, hraw]
  unfold meterContext nextFlow increment
  rw [sat32_eq, deltaUsed_eq, Nat.cast_pow]
  rfl

/-! ### Lanes that meter no fill -/

theorem laneWork_unmetered (hstage : (s.head h).cycle.isFillStage = false) (hc : (s.head h).cycle ≠ .closing) :
    s.laneWork h = none := by
  have hmetered : ¬ (s.head h).cycle.metered = true := by
    unfold CycleState.metered
    simp [hstage, hc]
  unfold State.laneWork
  split
  · exact if_neg hmetered
  · rfl

theorem meteredHead_of_laneWork_none (hw : s.laneWork h = none) : s.meteredHead h = s.head h := by
  unfold State.meteredHead
  rw [hw]

theorem cleanedVolume_of_ne (hc : (s.head h).cycle ≠ .cleanOpen) : s.cleanedVolume h = s.cleaning.counters[h] :=
  if_neg hc

/-- The cleaning counter of a scanned lane, below the limit of its 64 bits (R166). -/
theorem cleanedVolume_eq (hroom : s.cleaning.counters[h] + 65535 * (s.head h).factor < 2 ^ 64) : s.cleanedVolume h =
    if (s.head h).cycle = .cleanOpen then s.cleaning.counters[h] + s.scanDelta h * (s.head h).factor
    else s.cleaning.counters[h] := by
  unfold State.cleanedVolume
  rw [rawDelta_eq]
  split
  · have hdelta : s.scanDelta h ≤ 65535 := by unfold State.scanDelta; omega
    have hmul := Nat.mul_le_mul_right (s.head h).factor hdelta
    exact min_eq_left (by omega)
  · rfl

/-- Where no head holds a fill a scan is its lanes' work. -/
theorem scanBank_noFills (hfill : ∀ h, (s.head h).fill = none) : s.scanBank b = s.scanLanes b := by
  have hstay : ∀ g, s.decision g = .stay := fun g => by unfold State.decision State.laneWork; rw [hfill]; rfl
  have hnone : s.abortedBy b = [] := List.filter_eq_nil_iff.mpr fun g _ => by rw [hstay]; decide
  have hmoved : (s.movedBy b).foldl (fun t h => t.takeDecision (s.decision h) h) (s.scanLanes b) = s.scanLanes b :=
    List.foldlRecOn (motive := (· = s.scanLanes b)) _ _ rfl fun t ht g _ => by rw [hstay]; exact ht
  have hchoices : (s.scanLanes b).choices = s.choices := State.scanLanes_choices ..
  unfold State.scanBank
  rw [hnone, hmoved]
  generalize s.scanLanes b = t at hchoices ⊢
  simp [abortOrder, ← hchoices]

theorem scanLanes_noFills (hfill : ∀ h, (s.head h).fill = none)
    (hroom : ∀ h : HeadId, s.cleaning.counters[h] + 65535 * (s.head h).factor < 2 ^ 64) : s.scanLanes b = { s with
      lanes := Vector.ofFn fun h : HeadId =>
        if h.val / 16 = b.val then ⟨(s.lane h).counter, (s.lane h).counter⟩ else s.lane h
      cleaning := { s.cleaning with
        counters := Vector.ofFn fun h : HeadId =>
          if h.val / 16 = b.val ∧ (s.head h).cycle = .cleanOpen then
            s.cleaning.counters[h] + s.scanDelta h * (s.head h).factor
          else s.cleaning.counters[h] } } := by
  have hheads :
      (Vector.ofFn fun h : HeadId => if h.val / 16 = b.val then s.meteredHead h else s.head h) = s.heads := by
    refine vector_ext_fin fun g => ?_
    have hself : s.meteredHead g = s.head g :=
      meteredHead_of_laneWork_none (by unfold State.laneWork; rw [hfill])
    rw [vector_ofFn_get, hself, ite_self]
    rfl
  have hcounters : (fun h : HeadId => if h.val / 16 = b.val then s.cleanedVolume h else s.cleaning.counters[h]) =
      fun h : HeadId => if h.val / 16 = b.val ∧ (s.head h).cycle = .cleanOpen then
        s.cleaning.counters[h] + s.scanDelta h * (s.head h).factor else s.cleaning.counters[h] :=
    funext fun h => by rw [cleanedVolume_eq (hroom h), ite_and]
  unfold State.scanLanes
  rw [hheads, hcounters]

/-- Where a scan ends DRAINING, a head it does not meter goes to rest as it stood (R43, R138). -/
theorem scanBank_drained_unmetered (hbank : h.val / 16 = b.val) (hstage : (s.head h).cycle.isFillStage = false)
    (hc : (s.head h).cycle ≠ .closing) (hcount : s.flightCounted) (hends : scanEndsDraining b s) :
    (s.scanBank b).head h = (s.head h).atRest := by
  obtain ⟨w, hgiven, ⟨hheads, -⟩, -⟩ := scanBank_ends hcount hends
  have hspared := (hgiven.others h fun hmem => not_stuckAt_of_noFillStage hstage (mem_stuckHeads.mp hmem).2).1
  rw [hheads, hspared, (beforeAborts_noFillStage hbank hstage).1,
    meteredHead_of_laneWork_none (laneWork_unmetered hstage hc)]

/-- Settles O30: without fills a scan is its lanes' work; beside fills, the lane of a head that is not metered. -/
theorem scanWithoutFillsOnlySamples : Obligations.ScanWithoutFillsOnlySamples := by
  refine ⟨fun b s hs hfill hroom => ?_, fun h b s hs hbank hstage hc hcount => ?_⟩
  · exact congrArg _ ((event_of_running hs _).trans ((scanBank_noFills hfill).trans (scanLanes_noFills hfill hroom)))
  · refine ⟨s.scanBank b, congrArg _ (event_of_running hs _), lane_scanBank_sampled hcount hbank, fun hopen => ?_,
      fun hends => ?_, fun hends => scanBank_drained_unmetered hbank hstage hc (hcount hends.1) hends⟩
    · rw [(scanBank_lanes hcount).2, counter_scanLanes hbank, cleanedVolume_of_ne hopen]
    · obtain ⟨hhead, hout⟩ := scanBank_spared hcount hends (not_stuckAt_of_noFillStage hstage)
      obtain ⟨ehead, eout⟩ := beforeAborts_noFillStage (b := b) hbank hstage
      rw [hhead, hout, ehead, eout, meteredHead_of_laneWork_none (laneWork_unmetered hstage hc)]
      exact ⟨rfl, rfl⟩

end Sys2Proof.Machine
end

section
/-! PROPERTY. The law of the Correction Table (R70, R76) through every step. -/

namespace Sys2Proof.Machine

variable {s t : State}

/-- Entries may be written within their bounds, and the reservation moved to a LOADED slot or removed. -/
theorem CorrectionTableLaw.tables (hs : CorrectionTableLaw s)
    (hentry : ∀ h k, t.correction h k = s.correction h k ∨
      (-20000000 ≤ t.correction h k ∧ t.correction h k ≤ 20000000))
    (hreserved : ∀ h k, t.reservation = some (h, k) → s.reservation = some (h, k) ∨ (s.stored k).isSome = true)
    (hstored : t.stored = s.stored := by rfl) : CorrectionTableLaw t := by
  refine ⟨fun h k => (hentry h k).elim (fun e => e ▸ hs.1 h k) id, fun h k hr => ?_⟩
  show (t.stored k).isSome = true
  rw [hstored]
  exact (hreserved h k hr).elim (hs.2 h k) id

/-- The law speaks of nothing but the corrections, the reservation and the stored recipes. -/
theorem CorrectionTableLaw.congr (hs : CorrectionTableLaw s) (hcorrections : t.corrections = s.corrections := by rfl)
    (hreservation : t.reservation = s.reservation := by rfl) (hstored : t.stored = s.stored := by rfl) :
    CorrectionTableLaw t :=
  hs.tables (fun _ _ => .inl (by unfold State.correction; rw [hcorrections])) (fun _ _ hr => .inl (hreservation ▸ hr))
    hstored

/-- A column may be written within the bounds, and the reservation removed. -/
theorem putColumn_correctionTableLaw (hs : CorrectionTableLaw s) (k : SlotId) {col : Vector Int 64}
    (hcol : ∀ h : HeadId, -20000000 ≤ col[h] ∧ col[h] ≤ 20000000) {reservation : Option (HeadId × SlotId)}
    (hreserved : ∀ h j, reservation = some (h, j) → s.reservation = some (h, j)) :
    CorrectionTableLaw { s.putColumn k col with reservation := reservation } := by
  refine hs.tables (fun h j => ?_) fun h j hr => .inl (hreserved h j hr)
  have hentry : ({ s.putColumn k col with reservation := reservation } : State).correction h j =
      if j = k then col[h] else s.correction h j := State.correction_putColumn s h k j col
  rw [hentry]
  split
  · exact .inr (hcol h)
  · exact .inl rfl

/-- A slot may be written: its column is cleared, and no reservation stays on it (R73). -/
theorem rewriteSlot_correctionTableLaw (hs : CorrectionTableLaw s) (k : SlotId) (r : Option Recipe) :
    CorrectionTableLaw (s.rewriteSlot k r) := by
  refine ⟨fun h j => ?_, fun h j hres => ?_⟩
  · rw [correction_rewriteSlot]
    split
    · decide
    · exact hs.1 h j
  · rw [reservation_rewriteSlot] at hres
    obtain ⟨hr, hne⟩ := reservationWithout_eq_some.mp hres
    show ((s.rewriteSlot k r).stored j).isSome = true
    rw [stored_rewriteSlot, if_neg hne]
    exact hs.2 h j hr

/-- The learning step clamps what it writes, and at most removes the reservation (R71, R78). -/
theorem learnt_correctionTableLaw (hs : CorrectionTableLaw s) (h : HeadId) (c : FillContext) :
    CorrectionTableLaw (s.learnt h c) := by
  refine hs.tables (fun g k => ?_) (fun g k hres => .inl ?_) (FillsKept.stored_of_slots (by rw [learnt_frame]))
  · have hlearn : (s.learnt h c).correction g k = (s.learn h c).correction g k := rfl
    rw [hlearn, (s.learn_spec h c).2]
    split
    · exact .inr (boundedCorrection_bounds _)
    · exact .inl rfl
  · rw [learnt_frame] at hres
    dsimp only at hres
    split at hres
    · cases hres
    · exact hres

/-- A settle expiry writes the Correction Table in its learning step alone (R63, R71). -/
theorem finishSettle_kept (s : State) (h : HeadId) :
    FillsKept s (s.finishSettle h) ∨ ∃ c, FillsKept (s.learnt h c) (s.finishSettle h) := by
  cases hc : (s.head h).fill with
  | none =>
    have e : s.finishSettle h = s := by unfold State.finishSettle; rw [hc]
    rw [e]; exact .inl (.refl s)
  | some c =>
    have settled : ∀ t : State, FillsKept t (if (s.recipe c.slot).sniftDwell = 0 then t.finishSnift h
        else t.enter h .snift (some ⟨.sniftDwell, (s.recipe c.slot).sniftDwell⟩)) := by
      intro t
      split
      · exact .finishSnift t h
      · exact .enter t h _ _
    by_cases hm : s.mode = .calibration
    · rw [finishSettle_calibration hc hm]; exact .inl (settled s)
    · rw [finishSettle_filling hc hm]; exact .inr ⟨c, settled _⟩

theorem finishSettle_correctionTableLaw (hs : CorrectionTableLaw s) (h : HeadId) :
    CorrectionTableLaw (s.finishSettle h) := by
  rcases finishSettle_kept s h with hk | ⟨c, hk⟩
  · exact hk.correctionTableLaw hs
  · exact hk.correctionTableLaw (learnt_correctionTableLaw hs h c)

/-- The requests on recipes and corrections write the table as R73, R74 and R77 say; the others leave it. -/
theorem Served.keeps_correctionTableLaw {i : Instr} (h : Served s i t) (hs : CorrectionTableLaw s) :
    CorrectionTableLaw t := by
  have kept : ∀ {u}, FillsKept s u → CorrectionTableLaw u := fun hk => hk.correctionTableLaw hs
  have same := FillsKept.refl s
  cases h with
  | loadRecipe k r hb hr => exact rewriteSlot_correctionTableLaw hs k _
  | unloadRecipe k hb => exact rewriteSlot_correctionTableLaw hs k _
  | reserve h k hk => exact hs.tables (fun _ _ => .inl rfl) fun g j hr => by cases hr; exact .inr hk
  | @writeCorrection _ _ value h k hr =>
    refine putColumn_correctionTableLaw hs k (fun g => ?_) fun _ _ hn => nomatch hn
    rw [vector_set_get]
    split
    · exact clampCorrection_bounds _
    · exact hs.1 g k
  | dropReservation => exact hs.tables (fun _ _ => .inl rfl) fun _ _ hn => nomatch hn
  | restoreCorrections k values hm hk =>
    rw [State.dropReservationOn_eq]
    refine putColumn_correctionTableLaw hs k (fun g => ?_) fun _ _ hr => (reservationWithout_eq_some.mp hr).1
    rw [vector_ofFn_get]
    exact clampCorrection_bounds _
  | bindRecipe mask target hk =>
    refine bindMask_keeps (fun u h hu => ?_) mask hs
    obtain ⟨a, p, e, -⟩ := bindHead_cases target u h
    rw [e]
    exact hu.congr (by simp) (by simp) (stored_assignSlots u h a p)
  | setValveProfile k p hm => exact kept (.trans same.elsewhere (.deriveTerminalsWhere _ _))
  | enableHeads mask hf => exact kept (.setEnable s mask fun _ => id)
  | disableHeads mask => exact kept (.setEnable s mask fun _ => id)
  | drain hm => exact kept (.trans same.elsewhere (.judgeDrain _))
  | stopCleaning hm => exact kept (FillsKept.endCleaningEarly s).elsewhere
  | halt broadcast => exact kept (.haltAll s)
  | startCleaning openTime pauseTime cycles hm hp => exact kept (.trans same.elsewhere (.driveTo _ _))
  | endCalibration hm => exact kept (FillsKept.endCalibration s).elsewhere
  | _ => exact hs.congr

theorem Effect.keeps_correctionTableLaw {fits : Prop} (he : Effect fits s t) (hs : CorrectionTableLaw s) :
    CorrectionTableLaw t := by
  have kept : ∀ {u}, FillsKept s u → CorrectionTableLaw u := fun hk => hk.correctionTableLaw hs
  cases he with
  | request i hi => exact (answerRequest_served i s).keeps_correctionTableLaw hs
  | settle h => exact finishSettle_correctionTableLaw hs h
  | powerOn pins => exact (powerOnWith_booksLaw pins s).table
  | restart => exact ⟨hs.1, fun _ _ hr => nomatch hr⟩
  | halt => exact kept (.haltAll s)
  | forward => exact kept (.stepForward s)
  | backward => exact kept (.stepBackward s)
  | index => exact kept (.markIndex s)
  | quadrature => exact kept (.faultTracker s)
  | contactCame h => exact kept (.contactCame s h)
  | contactWent h => exact kept (.contactWent s h)
  | contactWindow h => exact kept (.leaveToIdle s h)
  | pressurizeDwell h => exact kept (.enter s h _ _)
  | sniftDwell h => exact kept (.finishSnift s h)
  | ventDwell h => exact kept (.endVent s h)
  | scan b => exact kept (.scanBank s b)
  | openPhase plan => exact kept (.endOpenPhase s plan)
  | pausePhase plan => exact kept (.endCycle s plan)
  | powerLoss => exact kept (.losePower s)
  | powerReturn => exact kept (.regainPower s)
  | lineHeld => exact kept (.dropTerminals s)
  | none | tick | pulse | ready => exact hs.congr

/-- Settles O52: the learning step, the requests on recipes and corrections and the resets are all that writes the
table. -/
theorem stepKeepsTheCorrectionTableLaw : Obligations.StepKeepsTheCorrectionTableLaw := fun _ _ =>
  step_keeps (fun _ _ => id) fun hs he =>
    exec_keeps_of_effect (fun hc hu => by rw [hc]; exact hu) Effect.keeps_correctionTableLaw hs he

end Sys2Proof.Machine
end

section
/-! PROPERTY. The requests on the Correction Table: READ CORRECTIONS (R75), the edit requests (R77) and RESTORE
CORRECTIONS (R74). -/

namespace Sys2Proof.Machine

variable {s : State}

/-! ### READ CORRECTIONS -/

/-- The fields of a record that is a row of fields of one size. -/
theorem fieldAt_flatMap_leBytes {α : Type} (k : Nat) (f : α → Nat) (l : List α) (i : Nat) (hi : i < l.length) :
    fieldAt (l.flatMap fun a => leBytes k (f a)) (k * i) k = f l[i] % 256 ^ k := by
  induction l generalizing i with
  | nil => cases hi
  | cons a l ih =>
    rw [List.flatMap_cons]
    cases i with
    | zero => exact fieldAt_leBytes k (f a) _
    | succ i =>
      rw [fieldAt_skip (Nat.le_mul_of_pos_right k i.succ_pos), Nat.mul_succ, Nat.add_sub_cancel]
      exact ih i (Nat.lt_of_succ_lt_succ hi)

theorem length_flatMap_leBytes {α : Type} (k : Nat) (f : α → Nat) (l : List α) :
    (l.flatMap fun a => leBytes k (f a)).length = l.length * k := by
  simp [List.length_flatMap, length_leBytes]

/-- Two's complement in 16 bits and back (R178). -/
theorem signed16_field {v : Int} (hlo : -32768 ≤ v) (hhi : v ≤ 32767) :
    signed16 ((v % 65536).toNat % 256 ^ 2) = v := by
  unfold signed16
  split <;> omega

/-- A correction within its bounds fits the signed 16-bit field of the link (R67, R70). -/
theorem linkCorrection_fits {v : Int} (hlo : -20000000 ≤ v) (hhi : v ≤ 20000000) :
    -32768 ≤ linkCorrection v ∧ linkCorrection v ≤ 32767 := by
  unfold linkCorrection
  split <;> omega

/-- Settles O32: each entry of the column stands in the two bytes at twice its head's number. -/
theorem readCorrectionsAnswersTheColumn : Obligations.ReadCorrectionsAnswersTheColumn := by
  intro slot s hs
  have hread : exec (.readCorrections slot) s = .next (transact 0x0E (readCorrections slot) s) := rfl
  rw [hread]
  refine ⟨fun hk => ?_, fun k hk =>
    ⟨allHeads.flatMap fun h => leSigned16 (microlitresSigned (s.correction h k)), ?_, ?_, fun h hlo hhi => ?_⟩⟩
  · rw [transact_refused hs]
    unfold readCorrections
    rw [inRange?_ge (by omega)]
  · refine congrArg _ (transact_accepted hs ?_)
    unfold readCorrections
    rw [hk, inRange?_fin]
  · exact (length_flatMap_leBytes 2 _ allHeads).trans (by simp [allHeads])
  · have hlen : h.val < allHeads.length := by simp [allHeads]
    have hhead : allHeads[h.val] = h := by simp [allHeads]
    unfold leSigned16
    rw [fieldAt_flatMap_leBytes 2 _ allHeads h.val hlen, hhead, microlitresSigned_eq]
    obtain ⟨hleast, hmost⟩ := linkCorrection_fits hlo hhi
    exact signed16_field hleast hmost

/-! ### The edit requests -/

/-- What the edit requests refuse by their fields (R77). -/
theorem editRequests_badField {head slot : Nat} (h : 63 < head ∨ 7 < slot) (value : Int) (s : State) :
    readCorrectionForEdit head slot s = refuse .badField s ∧
      writeCorrection head slot value s = refuse .badField s := by
  have hnone : inRange? 64 head = none ∨ inRange? 8 slot = none :=
    h.imp (fun hh => inRange?_ge (by omega)) fun hk => inRange?_ge (by omega)
  unfold readCorrectionForEdit writeCorrection
  rcases hnone with e | e
  · rw [e]; exact ⟨rfl, rfl⟩
  · rw [e]; cases inRange? 64 head <;> exact ⟨rfl, rfl⟩

theorem readCorrectionForEdit_empty {h : HeadId} {k : SlotId} (hk : (s.slot k).recipe = none) :
    readCorrectionForEdit h.val k.val s = refuse .slotEmpty s := by
  unfold readCorrectionForEdit
  rw [inRange?_fin, inRange?_fin]
  exact if_neg (by simp [hk])

theorem readCorrectionForEdit_loaded {h : HeadId} {k : SlotId} (hk : (s.slot k).recipe ≠ none) :
    readCorrectionForEdit h.val k.val s =
      accept (leSigned16 (linkCorrection (s.correction h k))) { s with reservation := some (h, k) } := by
  unfold readCorrectionForEdit
  rw [inRange?_fin, inRange?_fin, ← microlitresSigned_eq]
  exact if_pos (Option.isSome_iff_ne_none.mpr hk)

/-- With the reservation, WRITE CORRECTION writes the entry and answers what it then holds. -/
theorem writeCorrection_reserved {h : HeadId} {k : SlotId} (hr : s.reservation = some (h, k)) (value : Int) :
    writeCorrection h.val k.val value s =
      accept (leSigned16 (linkCorrection (boundedCorrection (value * 1000))))
        { s with
          corrections := s.corrections.set k ((s.corrections[k]).set h (boundedCorrection (value * 1000)))
          reservation := none } := by
  have hentry : (s.putCorrection h k (value * 1000)).correction h k = boundedCorrection (value * 1000) := by
    rw [State.correction_putCorrection, if_pos ⟨rfl, rfl⟩, clampCorrection_eq]
  unfold writeCorrection
  rw [inRange?_fin, inRange?_fin]
  simp only [hr, decide_true, if_true]
  rw [hentry, microlitresSigned_eq, ← clampCorrection_eq]
  rfl

/-- Without it the entry stays. -/
theorem writeCorrection_unreserved {h : HeadId} {k : SlotId} (hr : s.reservation ≠ some (h, k)) (value : Int) :
    writeCorrection h.val k.val value s =
      ({ s with reservation := none }, ⟨.noReservation, leSigned16 (linkCorrection (s.correction h k))⟩) := by
  unfold writeCorrection
  rw [inRange?_fin, inRange?_fin]
  simp only [hr, decide_false, Bool.false_eq_true, if_false, microlitresSigned_eq]

/-! ### RESTORE CORRECTIONS -/

theorem clampCorrection_ne_iff (v : Int) : clampCorrection v ≠ v ↔ v < -20000000 ∨ 20000000 < v := by
  unfold clampCorrection
  omega

/-- The bounds change the values that lie outside them (R74). -/
theorem clampedCount_eq (values : Vector Int 64) : clampedCount values =
    allHeads.countP fun h : HeadId =>
      decide (values[h] * 1000 < -20000000 ∨ 20000000 < values[h] * 1000) := by
  refine List.countP_congr fun h _ => ?_
  rw [bne_iff_ne, decide_eq_true_eq]
  exact clampCorrection_ne_iff _

theorem restoreCorrections_loaded {k : SlotId} (hm : s.mode.configurable = true) (hk : (s.slot k).recipe ≠ none)
    (values : Vector Int 64) : restoreCorrections k.val values s =
      accept (leBytes 1 (clampedCount values))
        { s with
          corrections := s.corrections.set k
            (Vector.ofFn fun h : HeadId => boundedCorrection (values[h] * 1000))
          reservation := reservationWithout k s.reservation } := by
  unfold restoreCorrections
  rw [if_pos hm, inRange?_fin]
  simp only [Option.isSome_iff_ne_none.mpr hk, if_true, State.dropReservationOn_eq, clampCorrection_eq]
  rfl

/-- Settles O31: the edit requests by the slot and the reservation, then RESTORE CORRECTIONS by its refusals in order
and by what it writes. -/
theorem writeAndRestoreCorrections : Obligations.WriteAndRestoreCorrections := by
  refine ⟨fun head slot value s hs => ?_, fun slot values s hs => ?_⟩
  · have hread : exec (.readCorrectionForEdit head slot) s =
        .next (transact 0x0F (readCorrectionForEdit head slot) s) := rfl
    have hwrite : exec (.writeCorrection head slot value) s =
        .next (transact 0x10 (writeCorrection head slot value) s) := rfl
    rw [hread, hwrite]
    refine ⟨fun hbad => ?_, fun h k hh hk => ?_⟩
    · obtain ⟨eread, ewrite⟩ := editRequests_badField hbad value s
      exact ⟨congrArg _ (transact_refused hs eread), congrArg _ (transact_refused hs ewrite)⟩
    · intro written
      subst hh hk
      refine ⟨fun he => ?_, fun hl => ?_, fun hr => ?_, fun hr => ?_⟩
      · exact congrArg _ (transact_refused hs (readCorrectionForEdit_empty he))
      · exact congrArg _ (transact_accepted hs (readCorrectionForEdit_loaded hl))
      · exact congrArg _ (transact_accepted hs (writeCorrection_reserved hr value))
      · rw [transact_of_listening hs, writeCorrection_unreserved hr]
  · intro op
    have hop : op = .next (transact 0x11 (restoreCorrections slot values) s) := rfl
    rw [hop, idleMode_eq_configurable]
    refine ⟨fun hm => ?_, fun hm hk => ?_, fun k hk hm => ⟨fun he => ?_, fun hl => ?_⟩⟩
    · rw [transact_refused hs]
      unfold restoreCorrections
      rw [hm]; rfl
    · rw [transact_refused hs]
      unfold restoreCorrections
      rw [if_pos hm, inRange?_ge (by omega)]
    · rw [transact_refused hs]
      unfold restoreCorrections
      rw [if_pos hm, hk, inRange?_fin]
      exact if_neg (by simp [he])
    · subst hk
      rw [← clampedCount_eq]
      exact congrArg _ (transact_accepted hs (restoreCorrections_loaded hm hl values))

end Sys2Proof.Machine
end

section
/-! PROPERTY. The requests on the Recipe Table: LOAD RECIPE and UNLOAD RECIPE (R73, R85 to R90), READ RECIPE (R91),
and READ VALVE PROFILE (R106), which answers in the same way. -/

namespace Sys2Proof.Machine

variable {s : State}

/-! ### LOAD RECIPE and UNLOAD RECIPE -/

theorem recipeInRange_eq (r : Recipe) : recipeInRange r = recipeLoadable r := by
  rw [Bool.eq_iff_iff]
  simp only [recipeInRange, recipeLoadable, between, Bool.and_eq_true, decide_eq_true_eq]
  omega

theorem max_min_eq_bounded {lo hi : Nat} (h : lo ≤ hi) (n : Nat) :
    max lo (min hi n) = if n < lo then lo else if hi < n then hi else n := by
  split
  · omega
  · split <;> omega

theorem min_eq_capped (hi n : Nat) : min hi n = if hi < n then hi else n := by split <;> omega

theorem clampRecipe_eq (r : Recipe) : clampRecipe r = recipeAsStored r := by
  unfold clampRecipe recipeAsStored
  rw [max_min_eq_bounded (by decide), min_eq_capped, min_eq_capped, min_eq_capped]
  simp only [Nat.lt_one_iff]

/-- A clamp changes a field exactly where the field is out of range (R88). -/
theorem clampMask_eq (r : Recipe) : clampMask r = clampMarks r := by
  have hceiling : max 1 (min 1023 r.pulseCeiling) ≠ r.pulseCeiling ↔
      r.pulseCeiling = 0 ∨ 1023 < r.pulseCeiling := by omega
  have hcap : ∀ hi n : Nat, min hi n ≠ n ↔ hi < n := by omega
  simp only [clampMask, clampMarks, clampRecipe, maskBit, bne_iff_ne, hceiling, hcap, Nat.reducePow]

/-- A slot without a binding, written and its column cleared: the whole state (R73). -/
theorem rewriteSlot_unbound {k : SlotId} (hk : (s.slot k).bindings = 0) (r : Option Recipe) :
    s.rewriteSlot k r = { s with
      slots := s.slots.set k ⟨r, 0⟩
      corrections := s.corrections.set k (Vector.replicate 64 0)
      reservation := reservationWithout k s.reservation } := by
  have hslot : ({ s.slot k with recipe := r } : Slot) = ⟨r, 0⟩ := by rw [← hk]
  unfold State.rewriteSlot
  rw [hslot, clearColumn_eq]
  rfl

theorem slotWrites_badField {slot : Nat} (h : 7 < slot) (s : State) :
    (∀ r, loadRecipe slot r s = refuse .badField s) ∧ unloadRecipe slot s = refuse .badField s := by
  unfold loadRecipe unloadRecipe
  rw [inRange?_ge (by omega)]
  exact ⟨fun _ => rfl, rfl⟩

/-- A slot that a head names is not written (R87, R90). -/
theorem slotWrites_bound {k : SlotId} (hk : 0 < (s.slot k).bindings) :
    (∀ r, loadRecipe k.val r s = refuse .slotBound s) ∧ unloadRecipe k.val s = refuse .slotBound s := by
  unfold loadRecipe unloadRecipe
  rw [inRange?_fin]
  exact ⟨fun _ => if_pos hk, if_pos hk⟩

theorem loadRecipe_outOfRange {k : SlotId} (hk : (s.slot k).bindings = 0) {r : Recipe} (hr : recipeLoadable r = false) :
    loadRecipe k.val r s = refuse .badField s := by
  unfold loadRecipe
  rw [inRange?_fin, recipeInRange_eq, hr]
  exact if_neg (by omega)

theorem loadRecipe_loaded {k : SlotId} (hk : (s.slot k).bindings = 0) {r : Recipe} (hr : recipeLoadable r = true) :
    loadRecipe k.val r s = accept (leBytes 1 (clampMarks r)) (s.rewriteSlot k (some (recipeAsStored r))) := by
  unfold loadRecipe
  rw [inRange?_fin, recipeInRange_eq, hr, clampMask_eq, clampRecipe_eq]
  exact if_neg (by omega)

theorem unloadRecipe_unloaded {k : SlotId} (hk : (s.slot k).bindings = 0) :
    unloadRecipe k.val s = accept [] (s.rewriteSlot k none) := by
  unfold unloadRecipe
  rw [inRange?_fin]
  exact if_neg (by omega)

/-- Settles O33: both requests by their refusals in order, and by the slot they write. -/
theorem loadAndUnloadRecipe : Obligations.LoadAndUnloadRecipe := by
  refine ⟨fun slot r s hs => ?_, fun slot s hs => ?_⟩
  · intro op
    have hop : op = .next (transact 0x0A (loadRecipe slot r) s) := rfl
    rw [hop]
    refine ⟨fun hk => ?_, fun k hk => ?_⟩
    · exact congrArg _ (transact_refused hs ((slotWrites_badField hk s).1 r))
    · subst hk
      refine ⟨fun hb => ?_, fun hb hr => ?_, fun hb hr => ?_⟩
      · exact congrArg _ (transact_refused hs ((slotWrites_bound hb).1 r))
      · exact congrArg _ (transact_refused hs (loadRecipe_outOfRange hb hr))
      · rw [← rewriteSlot_unbound hb]
        exact congrArg _ (transact_accepted hs (loadRecipe_loaded hb hr))
  · intro op
    have hop : op = .next (transact 0x0C (unloadRecipe slot) s) := rfl
    rw [hop]
    refine ⟨fun hk => ?_, fun k hk => ?_⟩
    · exact congrArg _ (transact_refused hs (slotWrites_badField hk s).2)
    · subst hk
      refine ⟨fun hb => ?_, fun hb => ?_⟩
      · exact congrArg _ (transact_refused hs (slotWrites_bound hb).2)
      · rw [← rewriteSlot_unbound hb]
        exact congrArg _ (transact_accepted hs (unloadRecipe_unloaded hb))

/-! ### The recipe record -/

theorem length_encodeRecipe (r : Recipe) : r.encode.length = 32 := by simp [Recipe.encode, length_leBytes]

/-- A recipe record behind a field of a payload. -/
theorem decodeRecipe_skip {k o : Nat} (h : k ≤ o) (n : Nat) (rest : List Byte) :
    Recipe.decode (leBytes k n ++ rest) o = Recipe.decode rest (o - k) := by
  have hfield : ∀ i size, fieldAt (leBytes k n ++ rest) (o + i) size = fieldAt rest (o - k + i) size := by
    intro i size
    rw [fieldAt_skip (by omega), Nat.sub_add_comm h]
  unfold Recipe.decode
  simp only [hfield, fieldAt_skip h]

/-- A recipe whose fields fit their widths is read back from its record (R181). -/
theorem decode_encode_recipe {r : Recipe} (h : r.wellFormed = true) : Recipe.decode r.encode 0 = r := by
  simp only [Recipe.wellFormed, fitsBytes, Bool.and_eq_true, decide_eq_true_eq, and_assoc] at h
  obtain ⟨h1, h2, h3, h4, h5, h6, h7, h8, h9, h10, h11, h12, h13, h14⟩ := h
  simp only [Recipe.decode, Recipe.encode, List.append_assoc, fieldAt_skip, fieldAt_leBytes, fieldAt_leBytes_last,
    Nat.reduceLeDiff, Nat.reduceSub, Nat.zero_add, Nat.mod_eq_of_lt, *]

/-- The payload of READ RECIPE for a slot (R181). -/
def recipePayload (k : SlotId) (x : Slot) : List Byte :=
  leBytes 1 k.val ++ (leBytes 1 (if x.recipe.isSome then 1 else 0) ++ (leBytes 1 x.bindings ++
    (x.recipe.map Recipe.encode).getD []))

theorem readRecipe_eq (k : SlotId) (s : State) : readRecipe k.val s = accept (recipePayload k (s.slot k)) s := by
  unfold readRecipe recipePayload
  rw [inRange?_fin]
  cases hx : (s.slot k).recipe with
  | none => simp [hx]
  | some r => simp [hx]

/-- The three bytes ahead of the recipe (R181). -/
theorem recipePayload_head (k : SlotId) (x : Slot) :
    fieldAt (recipePayload k x) 0 1 = k.val ∧ fieldAt (recipePayload k x) 1 1 = (if x.recipe.isSome then 1 else 0) ∧
      (x.bindings ≤ 64 → fieldAt (recipePayload k x) 2 1 = x.bindings) := by
  have hk := k.isLt
  simp only [recipePayload, fieldAt_skip, fieldAt_leBytes, Nat.reduceLeDiff, Nat.reduceSub]
  refine ⟨Nat.mod_eq_of_lt (by omega), Nat.mod_eq_of_lt ?_, fun hb => Nat.mod_eq_of_lt (by omega)⟩
  split <;> decide

theorem length_recipePayload_empty (k : SlotId) {x : Slot} (hx : x.recipe = none) : (recipePayload k x).length = 3 := by
  simp [recipePayload, hx, length_leBytes]

theorem recipePayload_loaded (k : SlotId) {x : Slot} {r : Recipe} (hx : x.recipe = some r) :
    (recipePayload k x).length = 35 ∧ Recipe.decode (recipePayload k x) 3 = Recipe.decode r.encode 0 := by
  simp only [recipePayload, hx, Option.map_some, Option.getD_some]
  refine ⟨by simp [length_leBytes, length_encodeRecipe], ?_⟩
  rw [decodeRecipe_skip (by decide), decodeRecipe_skip (by decide), decodeRecipe_skip (by decide)]

/-! ### The valve profile record -/

theorem length_profileBytes (k : ProfileId) (p : ValveProfile) : (profileBytes k p).length = 10 := by
  simp [profileBytes, length_leBytes]

theorem polarityCode_field (p : Polarity) : p.code % 256 ^ 1 = if p = .normal then 0 else 1 := by cases p <;> rfl

theorem fastDriveCode_field (d : FastDrive) : d.code % 256 ^ 1 = if d = .wideWithNarrow then 0 else 1 := by
  cases d <;> rfl

/-- Each field of the profile record, and the one behind it, is the one its offset begins with (R178). -/
theorem profileBytes_fields (k : ProfileId) (p : ValveProfile) (n : Nat) :
    let bytes := profileBytes k p ++ leBytes 1 n
    fieldAt bytes 0 1 = k.val % 256 ^ 1 ∧ fieldAt bytes 1 2 = p.openLag % 256 ^ 2 ∧
      fieldAt bytes 3 2 = p.closingLag % 256 ^ 2 ∧ fieldAt bytes 5 1 = p.gas.code % 256 ^ 1 ∧
      fieldAt bytes 6 1 = p.wide.code % 256 ^ 1 ∧ fieldAt bytes 7 1 = p.narrow.code % 256 ^ 1 ∧
      fieldAt bytes 8 1 = p.snift.code % 256 ^ 1 ∧ fieldAt bytes 9 1 = p.fastDrive.code % 256 ^ 1 ∧
      fieldAt bytes 10 1 = n % 256 ^ 1 := by
  simp only [profileBytes, List.append_assoc, fieldAt_skip, fieldAt_leBytes, fieldAt_leBytes_last, Nat.reduceLeDiff,
    Nat.reduceSub, and_self]

theorem countHeads_le (s : State) (p : Head → Bool) : s.countHeads p ≤ 64 := by
  have h : s.countHeads p ≤ allHeads.length := List.countP_le_length
  simpa [allHeads] using h

/-- Settles O34: each field of either reply is the one its offset begins with. -/
theorem readRecipeAndReadValveProfile : Obligations.ReadRecipeAndReadValveProfile := by
  refine ⟨fun slot s hs => ?_, fun profile s hs => ?_⟩
  · have hread : exec (.readRecipe slot) s = .next (transact 0x0B (readRecipe slot) s) := rfl
    rw [hread]
    refine ⟨fun hk => ?_, fun k hk => ?_⟩
    · rw [transact_refused hs]
      unfold readRecipe
      rw [inRange?_ge (by omega)]
    · subst hk
      obtain ⟨hslot, hstate, hbindings⟩ := recipePayload_head k (s.slot k)
      refine ⟨recipePayload k (s.slot k), congrArg _ (transact_accepted hs (readRecipe_eq k s)), hslot, hbindings,
        fun he => ?_, fun r hr => ?_⟩
      · exact ⟨length_recipePayload_empty k he, by rw [hstate, he]; rfl⟩
      · obtain ⟨hlength, hrecord⟩ := recipePayload_loaded k hr
        exact ⟨hlength, by rw [hstate, hr]; rfl, fun hfits => hrecord.trans (decode_encode_recipe hfits)⟩
  · have hread : exec (.readValveProfile profile) s = .next (transact 0x05 (readValveProfile profile) s) := rfl
    rw [hread]
    refine ⟨fun hk => ?_, fun k hk => ?_⟩
    · rw [transact_refused hs]
      unfold readValveProfile
      rw [inRange?_ge (by omega)]
    · subst hk
      obtain ⟨enumber, eopen, eclosing, egas, ewide, enarrow, esnift, edrive, eheads⟩ :=
        profileBytes_fields k s.profiles[k] (s.countHeads fun x => decide (x.profile = k))
      have hk := k.isLt
      have hcount := countHeads_le s fun x => decide (x.profile = k)
      refine ⟨_, congrArg _ (transact_accepted hs ?_), ?_, enumber.trans (Nat.mod_eq_of_lt (by omega)),
        fun h => eopen.trans (Nat.mod_eq_of_lt (by omega)), fun h => eclosing.trans (Nat.mod_eq_of_lt (by omega)),
        egas.trans (polarityCode_field _), ewide.trans (polarityCode_field _), enarrow.trans (polarityCode_field _),
        esnift.trans (polarityCode_field _), edrive.trans (fastDriveCode_field _),
        eheads.trans (Nat.mod_eq_of_lt (by omega))⟩
      · unfold readValveProfile
        rw [inRange?_fin]
      · rw [List.length_append, length_profileBytes, length_leBytes]

end Sys2Proof.Machine
end

section
/-! PROPERTY. BIND RECIPE (R94 to R98): its refusals in order, and the slots of every head after it. -/

namespace Sys2Proof.Machine

variable {s : State}

/-! ### One head -/

/-- The record of a head after the BIND of one slot, or of none, in a mode: the slot at once, or pending until the
head's next PRESSURIZE entry (R95 to R98). -/
def Head.boundTo (m : Mode) (target : Option SlotId) (x : Head) : Head :=
  match target with
  | none => { x with active := none, pendingSlot := none }
  | some k =>
    if m.producing = true ∨ (m = .calibration ∧ x.fill.isSome = true) then
      (if x.active = some k then { x with pendingSlot := none } else { x with pendingSlot := some k })
    else { x with active := some k, pendingSlot := none }

theorem head_bindNow (target : Option SlotId) (s : State) (h g : HeadId) :
    (bindNow target s h).head g =
      if g = h then { s.head h with active := target, pendingSlot := none } else s.head g :=
  State.head_assignSlots s h g target none

theorem head_bindLater (k : SlotId) (s : State) (h g : HeadId) :
    (bindLater k s h).head g =
      if g = h then
        (if (s.head h).active = some k then { s.head h with pendingSlot := none }
         else { s.head h with pendingSlot := some k })
      else s.head g := by
  unfold bindLater
  dsimp only
  split
  · next ha => rw [State.head_assignSlots, ← ha]
  · rw [State.head_assignSlots]

theorem head_bindHead (target : Option SlotId) (s : State) (h g : HeadId) :
    (bindHead target s h).head g = if g = h then (s.head h).boundTo s.mode target else s.head g := by
  unfold bindHead Head.boundTo
  cases target with
  | none => exact head_bindNow none s h g
  | some k =>
    have now := head_bindNow (some k) s h g
    have later := head_bindLater k s h g
    cases hm : s.mode with
    | standby | halted | cleaning => simpa [Mode.producing] using now
    | production | draining => simpa [Mode.producing] using later
    | calibration =>
      by_cases hf : (s.head h).fill.isSome = true
      · simpa [Mode.producing, hf] using later
      · simpa [Mode.producing, hf] using now

/-! ### What a BIND leaves -/

/-- BIND writes the slots of heads, the binding counts and the pending-changeover count, and no recipe (R92, R93,
R95 to R98). -/
structure BoundFrom (s t : State) : Prop where
  frame : t = { s with heads := t.heads, slots := t.slots, pendingChangeovers := t.pendingChangeovers }
  recipes : ∀ j, (t.slot j).recipe = (s.slot j).recipe

theorem BoundFrom.mode {t : State} (h : BoundFrom s t) : t.mode = s.mode := by rw [h.frame]

theorem BoundFrom.bindHead {t : State} (ht : BoundFrom s t) (target : Option SlotId) (h : HeadId) :
    BoundFrom s (bindHead target t h) := by
  obtain ⟨a, p, e, -⟩ := bindHead_cases target t h
  rw [e]
  refine ⟨?_, fun j => ?_⟩
  · have hstep : t.assignSlots h a p = { t with
        heads := (t.assignSlots h a p).heads
        slots := (t.assignSlots h a p).slots
        pendingChangeovers := (t.assignSlots h a p).pendingChangeovers } := rfl
    rw [hstep, ht.frame]
  · rw [State.slot_assignSlots]
    exact ht.recipes j

theorem bindMask_boundFrom (mask : HeadMask) (target : Option SlotId) (s : State) :
    BoundFrom s (bindMask mask target s) :=
  bindMask_keeps (fun _ h ht => ht.bindHead target h) mask ⟨rfl, fun _ => rfl⟩

/-- Heads bound one after the other: each named head is bound as it stood before, and no other is (R94). -/
theorem head_foldl_bindHead (target : Option SlotId) (g : HeadId) (l : List HeadId) (hl : l.Nodup) {t : State}
    (ht : BoundFrom s t) :
    (l.foldl (bindHead target) t).head g = if g ∈ l then (t.head g).boundTo s.mode target else t.head g := by
  induction l generalizing t with
  | nil => simp
  | cons h l ih =>
    obtain ⟨hh, hl⟩ := List.nodup_cons.mp hl
    rw [List.foldl_cons, ih hl (ht.bindHead target h), head_bindHead, ht.mode]
    by_cases e : g = h
    · subst e; simp [hh]
    · simp [e]

theorem head_bindMask (mask : HeadMask) (target : Option SlotId) (s : State) (g : HeadId) :
    (bindMask mask target s).head g =
      if mask.getLsbD g.val then (s.head g).boundTo s.mode target else s.head g := by
  have hmem : g ∈ allHeads.filter (inMask mask) ↔ mask.getLsbD g.val = true := by simp [inMask]
  unfold bindMask
  rw [head_foldl_bindHead target g _ (nodup_allHeads.filter _) ⟨rfl, fun _ => rfl⟩]
  simp only [hmem]

/-! ### The request -/

theorem namesNeedful_iff (mask : HeadMask) (s : State) : namesNeedful mask s = true ↔
    ∃ h : HeadId, mask.getLsbD h.val = true ∧ ((s.head h).enable = .enabled ∨ (s.head h).fill.isSome = true ∨
      (s.cal.state ≠ .idle ∧ s.cal.head = some h)) := by
  simp [namesNeedful, inMask, or_assoc]

theorem bindRecipe_badSlot {slot : Nat} (hk : 7 < slot) (hn : slot ≠ 255) (mask : HeadMask) (s : State) :
    bindRecipe mask slot s = refuse .badField s := by
  unfold bindRecipe
  rw [inRange?_ge (by omega)]
  exact if_neg hn

/-- The slot code 255 is none (R94, R178). -/
theorem bindRecipe_none (mask : HeadMask) (s : State) : bindRecipe mask 255 s =
    if namesNeedful mask s then refuse .recipeMissing s else accept [] (bindMask mask none s) := by
  unfold bindRecipe
  rw [inRange?_ge (by decide)]
  rfl

theorem bindRecipe_slot (mask : HeadMask) (k : SlotId) (s : State) : bindRecipe mask k.val s =
    if namesBeyond mask s then refuse .badField s
    else if (s.slot k).recipe.isNone then refuse .slotEmpty s
    else accept [] (bindMask mask (some k) s) := by
  unfold bindRecipe
  rw [inRange?_fin]

/-- The reply and the state of an accepted BIND, head by head. -/
theorem bindRecipe_accepted (hs : s.listening = true) {mask : HeadMask} {slot : Nat} {target : Option SlotId}
    (hb : bindRecipe mask slot s = accept [] (bindMask mask target s)) :
    ∃ t : State, exec (.bindRecipe mask slot) s = .next (t.answered 0x0D .ok []) ∧
      t = { s with heads := t.heads, slots := t.slots, pendingChangeovers := t.pendingChangeovers } ∧
      (∀ h, t.head h = if mask.getLsbD h.val then (s.head h).boundTo s.mode target else s.head h) ∧
      ∀ j, (t.slot j).recipe = (s.slot j).recipe :=
  have hbound := bindMask_boundFrom mask target s
  ⟨bindMask mask target s, congrArg _ (transact_accepted hs hb), hbound.frame, head_bindMask mask target s,
    hbound.recipes⟩

/-- Settles O35: the refusals in the order of R94, and the BIND of a mask head by head. -/
theorem bindRecipeByMode : Obligations.BindRecipeByMode := by
  intro mask slot s hs op named beyond needful bound
  have hop : op = .next (transact 0x0D (bindRecipe mask slot) s) := rfl
  have hbeyond : namesBeyond mask s = true ↔ beyond := namesBeyond_iff mask s
  have hneedful : namesNeedful mask s = true ↔ needful := namesNeedful_iff mask s
  refine ⟨fun hk hn => ?_, fun hn hneed => ?_, fun hn hneed => ?_, fun k hk => ⟨fun hb => ?_, fun hb he => ?_,
    fun hb he => ?_⟩⟩
  · exact hop.trans (congrArg _ (transact_refused hs (bindRecipe_badSlot hk hn mask s)))
  · subst hn
    refine hop.trans (congrArg _ (transact_refused hs ?_))
    rw [bindRecipe_none, if_pos (hneedful.mpr hneed)]
  · subst hn
    refine bindRecipe_accepted hs (target := none) ?_
    rw [bindRecipe_none, if_neg (hneedful.not.mpr hneed)]
  · subst hk
    refine hop.trans (congrArg _ (transact_refused hs ?_))
    rw [bindRecipe_slot, if_pos (hbeyond.mpr hb)]
  · subst hk
    refine hop.trans (congrArg _ (transact_refused hs ?_))
    rw [bindRecipe_slot, if_neg (hbeyond.not.mpr hb), if_pos (Option.isNone_iff_eq_none.mpr he)]
  · subst hk
    have haccepted : bindRecipe mask k.val s = accept [] (bindMask mask (some k) s) := by
      rw [bindRecipe_slot, if_neg (hbeyond.not.mpr hb), if_neg (Option.isNone_iff_eq_none.not.mpr he)]
    have hbound := bindRecipe_accepted hs haccepted
    simp only [Head.boundTo, State.producing_eq_fillingMode] at hbound
    exact hbound

end Sys2Proof.Machine
end

section
/-! SUPPORT. What the operations on heads leave of the outputs' wiring, and what the mode, the service units and the
recorded live inputs are after each event and request. -/

namespace Sys2Proof.Machine

/-! ### The parts of the two laws -/

/-- SNIFT and GAS are never open together with WIDE or NARROW (R107). -/
def Outputs.interlocked (o : Outputs) : Prop := (o.snift = true ∨ o.gas = true) → o.wide = false ∧ o.narrow = false

/-- A head's terminals are the levels that R109 and R111 give for its open set. -/
def State.wired (s : State) (h : HeadId) : Prop :=
  (s.output h).terminals = terminalsOf s.drive (s.profileOf h) (s.output h).opened

/-- Both service units fit the mode (R152, R162). -/
def State.serviced (s : State) : Prop := CleaningFitsMode s ∧ CalibrationFitsMode s

/-- A cleaning phase runs in CLEANING alone (R162). -/
theorem State.serviced.cleaning {s : State} (hs : s.serviced) (hp : s.cleaning.phase ≠ .idle) : s.mode = .cleaning :=
  hs.1.1.mp hp

/-- MC and VD have recorded the levels of the live inputs (R111, R140, R144). -/
def State.recorded (s : State) : Prop :=
  s.valvePower = s.pins.valvePower ∧ s.productReady = s.pins.productReady ∧
    s.drive = DriveState.ofSense s.pins.valvePower

/-- Valve power is present in every mode other than HALTED (R140). -/
def State.energized (s : State) : Prop := s.valvePower = true ∨ s.mode = .halted

theorem serviceAndPowerLaw_iff (s : State) : ServiceAndPowerLaw s ↔
    s.serviced ∧ (s.pins.resetHeld = false → s.recorded ∧ s.energized) := by
  unfold ServiceAndPowerLaw PowerFitsMode State.serviced State.recorded State.energized DriveState.ofSense
  simp only [and_assoc]

theorem terminalsOf_eq (d : DriveState) (p : ValveProfile) (o : Outputs) :
    terminalsOf d p o =
      ⟨decide (d = .powered) && (o.gas ^^ decide (p.gas = .inverted)),
        decide (d = .powered) && (o.wide ^^ decide (p.wide = .inverted)),
        decide (d = .powered) && (o.narrow ^^ decide (p.narrow = .inverted)),
        decide (d = .powered) && (o.snift ^^ decide (p.snift = .inverted))⟩ := by
  cases d with
  | unpowered => rfl
  | powered => simp [terminalsOf, terminal]

theorem valveLaw_iff (s : State) : ValveLaw s ↔
    (∀ h, (s.output h).opened.interlocked) ∧ (s.pins.resetHeld = false → ∀ h, s.wired h) := by
  unfold ValveLaw State.wired
  simp only [terminalsOf_eq]
  rfl

theorem interlocked_allOff : Outputs.allOff.interlocked := fun _ => ⟨rfl, rfl⟩

/-- The open set of every state keeps the interlocks (R107). -/
theorem interlocked_openSet (c : CycleState) (v : Bool) (d : FastDrive) : (openSet c v d).interlocked := by
  cases c <;> simp [openSet, Outputs.interlocked, Outputs.allOff]

theorem State.wired_congr {s t : State} {h : HeadId} (hopened : (t.output h).opened = (s.output h).opened)
    (hterminals : (t.output h).terminals = (s.output h).terminals) (hdrive : t.drive = s.drive)
    (hprofile : t.profileOf h = s.profileOf h) (hs : s.wired h) : t.wired h := by
  unfold State.wired at *
  rwa [hopened, hterminals, hdrive, hprofile]

/-- The law of CS reads phase, completion state, timer and plan, but no volumes or marks. -/
theorem CleaningFitsMode.of_fields {s t : State} (hs : CleaningFitsMode s)
    (hphase : t.cleaning.phase = s.cleaning.phase) (hresult : t.cleaning.result = s.cleaning.result)
    (htimer : t.cleaning.timer = s.cleaning.timer) (hplan : t.cleaning.plan = s.cleaning.plan)
    (hmode : t.mode = s.mode) : CleaningFitsMode t := by
  unfold CleaningFitsMode at *
  rwa [hphase, hresult, htimer, hplan, hmode]

/-- A run that is stopped, or none, fits every mode but CLEANING (R139, R167). -/
theorem CleaningFitsMode.of_stopped {s t : State} (hs : CleaningFitsMode s)
    (hcleaning : t.cleaning = s.cleaning.stopped) (hm : t.mode ≠ .cleaning) : CleaningFitsMode t := by
  unfold Cleaning.stopped at hcleaning
  split at hcleaning
  · next hp => exact hs.of_modes hcleaning (fun hc => hs.1.mpr hc hp) hm
  · unfold CleaningFitsMode
    rw [hcleaning]
    simp [Cleaning.over, hm]

theorem CalibrationFitsMode.of_idle {t : State} {last : Option CalResult} (hcal : t.cal = ⟨none, none, .idle, last⟩)
    (hm : t.mode ≠ .calibration) : CalibrationFitsMode t := by
  unfold CalibrationFitsMode
  rw [hcal]
  simp [hm]

/-! ### Relations between the states before and after -/

/-- The interlocks and the rule of the terminals are kept, and the reset line is as it was. -/
structure WiresKept (s t : State) : Prop where
  line : t.pins.resetHeld = s.pins.resetHeld
  interlocked : ∀ h, (s.output h).opened.interlocked → (t.output h).opened.interlocked
  wired : ∀ h, s.wired h → t.wired h

/-- Work on heads: it keeps the wiring, and leaves the mode, the service units and the live inputs. -/
structure HeadWork (s t : State) : Prop extends WiresKept s t where
  mode : t.mode = s.mode
  cal : t.cal = s.cal
  cleaning : t.cleaning = s.cleaning
  drive : t.drive = s.drive
  valvePower : t.valvePower = s.valvePower
  productReady : t.productReady = s.productReady
  sense : t.pins.valvePower = s.pins.valvePower
  ready : t.pins.productReady = s.pins.productReady

/-- The wiring is kept, and so is what the mode, the service units and the live inputs owe each other. -/
structure UnitsKept (s t : State) : Prop extends WiresKept s t where
  serviced : s.serviced → t.serviced
  recorded : s.recorded → t.recorded
  energized : s.serviced → s.energized → t.energized

theorem WiresKept.trans {s t u : State} (h₁ : WiresKept s t) (h₂ : WiresKept t u) : WiresKept s u where
  line := h₂.line.trans h₁.line
  interlocked h hs := h₂.interlocked h (h₁.interlocked h hs)
  wired h hs := h₂.wired h (h₁.wired h hs)

/-- What leaves the open sets, the terminals, the drive and every head's profile keeps the wiring. -/
theorem WiresKept.of_fields {s t : State} (hline : t.pins.resetHeld = s.pins.resetHeld) (hdrive : t.drive = s.drive)
    (hprofiles : t.profiles = s.profiles) (hheads : ∀ g, (t.head g).profile = (s.head g).profile)
    (hopened : ∀ g, (t.output g).opened = (s.output g).opened)
    (hterminals : ∀ g, (t.output g).terminals = (s.output g).terminals) : WiresKept s t where
  line := hline
  interlocked g := by rw [hopened]; exact id
  wired g := State.wired_congr (hopened g) (hterminals g) hdrive (State.profileOf_congr hprofiles (hheads g))

/-- Fields that the wiring does not read may be written. -/
theorem WiresKept.elsewhere {s t u : State} (h : WiresKept s t) (hheads : u.heads = t.heads := by rfl)
    (houtputs : u.outputs = t.outputs := by rfl) (hprofiles : u.profiles = t.profiles := by rfl)
    (hdrive : u.drive = t.drive := by rfl) (hline : u.pins.resetHeld = t.pins.resetHeld := by rfl) :
    WiresKept s u := by
  have hout : ∀ g, u.output g = t.output g := fun g => by unfold State.output; rw [houtputs]
  exact h.trans (.of_fields hline hdrive hprofiles (fun g => by unfold State.head; rw [hheads])
    (fun g => by rw [hout]) fun g => by rw [hout])

/-! ### Work on heads -/

namespace HeadWork
variable {s t u : State}

theorem trans (h₁ : HeadWork s t) (h₂ : HeadWork t u) : HeadWork s u where
  toWiresKept := h₁.toWiresKept.trans h₂.toWiresKept
  mode := h₂.mode.trans h₁.mode
  cal := h₂.cal.trans h₁.cal
  cleaning := h₂.cleaning.trans h₁.cleaning
  drive := h₂.drive.trans h₁.drive
  valvePower := h₂.valvePower.trans h₁.valvePower
  productReady := h₂.productReady.trans h₁.productReady
  sense := h₂.sense.trans h₁.sense
  ready := h₂.ready.trans h₁.ready

/-- Heads may be written without their profiles, outputs without open sets and terminals, and other fields. -/
theorem of_fields (hheads : ∀ g, (t.head g).profile = (s.head g).profile)
    (hopened : ∀ g, (t.output g).opened = (s.output g).opened := by exact fun _ => rfl)
    (hterminals : ∀ g, (t.output g).terminals = (s.output g).terminals := by exact fun _ => rfl)
    (hprofiles : t.profiles = s.profiles := by rfl) (hdrive : t.drive = s.drive := by rfl)
    (hmode : t.mode = s.mode := by rfl) (hcal : t.cal = s.cal := by rfl) (hcleaning : t.cleaning = s.cleaning := by rfl)
    (hvalvePower : t.valvePower = s.valvePower := by rfl) (hproductReady : t.productReady = s.productReady := by rfl)
    (hline : t.pins.resetHeld = s.pins.resetHeld := by rfl) (hsense : t.pins.valvePower = s.pins.valvePower := by rfl)
    (hready : t.pins.productReady = s.pins.productReady := by rfl) : HeadWork s t :=
  ⟨.of_fields hline hdrive hprofiles hheads hopened hterminals, hmode, hcal, hcleaning, hdrive, hvalvePower,
    hproductReady, hsense, hready⟩

theorem refl (s : State) : HeadWork s s := of_fields fun _ => rfl

/-- An operation at one head that derives this head's outputs (R108, R109). -/
theorem of_takes {h : HeadId} (ht : HeadTakes h s t) (hint : (t.output h).opened.interlocked) (hwired : t.wired h) :
    HeadWork s t := by
  refine ⟨⟨by rw [ht.pins], fun g hg => ?_, fun g hg => ?_⟩, ht.mode, ht.cal, by rw [ht.frame], ht.drive,
    by rw [ht.frame], ht.productReady, by rw [ht.pins], by rw [ht.pins]⟩
  · by_cases e : g = h
    · subst e; exact hint
    · rw [(ht.others g e).2]; exact hg
  · by_cases e : g = h
    · subst e; exact hwired
    · have hout := (ht.others g e).2
      exact State.wired_congr (by rw [hout]) (by rw [hout]) ht.drive
        (State.profileOf_congr ht.profiles (ht.static g).1) hg

theorem foldl {α : Type} {f : State → α → State} (hf : ∀ u a, HeadWork u (f u a)) :
    ∀ (l : List α) (s : State), HeadWork s (l.foldl f s)
  | [], s => refl s
  | a :: l, s => (hf s a).trans (foldl hf l (f s a))

theorem updHead (s : State) (h : HeadId) {f : Head → Head}
    (hf : ∀ x, (f x).profile = x.profile := by exact fun _ => rfl) : HeadWork s (s.updHead h f) := by
  refine of_fields fun g => ?_
  rw [State.head_updHead]
  split
  · next e => subst e; exact hf _
  · rfl

theorem setVent (s : State) (h : HeadId) (v : Bool) : HeadWork s (s.putOutput h { s.output h with vent := v }) := by
  refine of_fields (fun _ => rfl) (fun g => ?_) fun g => ?_
  all_goals
    rw [State.output_putOutput]
    split
    · next e => subst e; rfl
    · rfl

theorem enter (s : State) (h : HeadId) (c : CycleState) (tm : Option Timer) : HeadWork s (s.enter h c tm) := by
  refine of_takes (.enter s h c tm) ?_ ?_
  · rw [State.output_enter, if_pos rfl]; exact interlocked_openSet _ _ _
  · unfold State.wired
    rw [State.output_enter, if_pos rfl, State.profileOf_enter]; rfl

theorem goIdle (s : State) (h : HeadId) : HeadWork s (s.goIdle h) := by
  unfold State.goIdle
  exact ((updHead s h).trans (setVent _ h _)).trans (enter _ h _ _)

theorem clearHeads (s : State) : HeadWork s s.clearHeads := by
  refine ⟨⟨by simp, fun g _ => ?_, fun g _ => ?_⟩, by simp, by simp, by simp, by simp, by simp, by simp, by simp,
    by simp⟩
  · rw [State.output_clearHeads]; exact interlocked_allOff
  · have hp : s.clearHeads.profileOf g = s.profileOf g :=
      State.profileOf_congr (by simp) (by rw [State.head_clearHeads]; rfl)
    unfold State.wired
    rw [State.output_clearHeads, hp, State.clearHeads_drive]

theorem fileReport (s : State) (r : Report) : HeadWork s (s.fileReport r) := by
  rw [State.fileReport_eq]; exact of_fields fun _ => rfl

theorem countFault (s : State) (h : HeadId) (v : Verdict) : HeadWork s (s.countFault h v) := by
  have hhead : ∀ g, ((s.countFault h v).head g).profile = (s.head g).profile := by
    intro g
    rw [head_countFault]
    split
    · next e => subst e; rfl
    · rfl
  rw [State.countFault_eq] at hhead ⊢
  exact of_fields hhead

theorem reportFill (s : State) (h : HeadId) (v : Verdict) : HeadWork s (s.reportFill h v) := by
  unfold State.reportFill
  split
  · exact refl s
  · exact ((fileReport s _).trans (updHead _ h)).trans (countFault _ h v)

theorem reportSkipped (s : State) (h : HeadId) : HeadWork s (s.reportSkipped h) := by
  unfold State.reportSkipped State.reportUnfilled
  dsimp only
  split
  · exact (fileReport s _).trans (countFault _ h _)
  · exact refl s

theorem reportHalted (s : State) (h : HeadId) : HeadWork s (s.reportHalted h) := by
  have halted : HeadWork s (State.reportHalted.halted h s) := by
    unfold State.reportHalted.halted
    split
    · exact refl s
    · exact reportFill s h _
  unfold State.reportHalted
  cases (s.head h).cycle with
  | pressurize | fillSoft | fillFast | fillTopUp | closing | snift => exact halted
  | skip => exact reportSkipped s h
  | _ => exact refl s

theorem haltHeads (s : State) : HeadWork s s.haltHeads := (foldl reportHalted allHeads s).trans (clearHeads _)

theorem driveTo (s : State) (c : CycleState) : HeadWork s (s.driveTo c) := foldl (fun u h => enter u h c none) _ s

theorem releaseDriven (s : State) : HeadWork s s.releaseDriven := foldl goIdle _ s

theorem assignSlots (s : State) (h : HeadId) (a p : Option SlotId) : HeadWork s (s.assignSlots h a p) := by
  refine of_fields (fun g => ?_) (by simp) (by simp) (by simp) (by simp) (by simp) (by simp) (by simp) (by simp)
    (by simp) (by simp) (by simp) (by simp)
  rw [State.head_assignSlots]
  split
  · next e => subst e; rfl
  · rfl

theorem enterPressurize (s : State) (h : HeadId) : HeadWork s (s.enterPressurize h) := by
  have adopted : HeadWork s (s.adopt h) := by
    unfold State.adopt
    split
    · exact assignSlots s h _ _
    · exact refl s
  unfold State.enterPressurize
  dsimp only
  split
  · exact refl s
  · split
    · exact (adopted.trans (updHead _ h)).trans (enter _ h _ _)
    · exact (adopted.trans (updHead _ h)).trans (enter _ h _ _)

theorem enterClosing (s : State) (h : HeadId) (late : Bool) : HeadWork s (s.enterClosing h late) := by
  unfold State.enterClosing
  split
  · exact refl s
  · exact (updHead s h).trans (enter _ h _ _)

theorem beginPass (s : State) (h : HeadId) : HeadWork s (s.beginPass h) := by
  unfold State.beginPass
  dsimp only
  split
  · exact (updHead s h).trans (enter _ h _ _)
  · split
    · exact enterPressurize s h
    · split
      · exact enter s h _ _
      · exact refl s

theorem infeed (s : State) (h : HeadId) : HeadWork s (s.infeed h) := by
  unfold State.infeed
  split
  · exact beginPass s h
  · exact (goIdle s h).trans (beginPass _ h)
  all_goals exact refl s

theorem latestClose (s : State) (h : HeadId) : HeadWork s (s.latestClose h) := by
  unfold State.latestClose
  split
  · exact enterClosing s h true
  · exact refl s

theorem dischargeHead (s : State) (h : HeadId) : HeadWork s (s.dischargeHead h) := by
  unfold State.dischargeHead State.reportDischarge
  split
  · split
    · exact (reportFill s h _).trans (goIdle _ h)
    · exact (reportSkipped s h).trans (goIdle _ h)
  · exact refl s

theorem endVent (s : State) (h : HeadId) : HeadWork s (s.endVent h) := by
  have hout := output_endVent s h
  have hprofile : ∀ g, ((s.endVent h).head g).profile = (s.head g).profile := by
    intro g
    rw [head_endVent]
    split
    · next e => subst e; rfl
    · rfl
  refine ⟨⟨rfl, fun g hg => ?_, fun g hg => ?_⟩, rfl, rfl, rfl, rfl, rfl, rfl, rfl, rfl⟩
  · rw [hout]
    split
    · rw [derived_eq]; exact interlocked_openSet _ _ _
    · exact hg
  · have hp : (s.endVent h).profileOf g = s.profileOf g := State.profileOf_congr rfl (hprofile g)
    unfold State.wired at *
    rw [hout, hp]
    split
    · next e => subst e; rw [derived_eq]; rfl
    · exact hg

theorem setEnable (s : State) (mask : HeadMask) {f : Head → Head}
    (hf : ∀ x, (f x).profile = x.profile := by exact fun _ => rfl) : HeadWork s (s.setEnable mask f) := by
  refine of_fields (fun g => ?_) (by simp [State.output]) (by simp [State.output]) (by simp) (by simp) (by simp)
    (by simp) (by simp) (by simp) (by simp) (by simp) (by simp) (by simp)
  rw [State.head_setEnable]
  split
  · exact hf _
  · rfl

end HeadWork

theorem HeadWork.serviced_iff {s t : State} (h : HeadWork s t) : t.serviced ↔ s.serviced := by
  unfold State.serviced CleaningFitsMode CalibrationFitsMode
  rw [h.cleaning, h.cal, h.mode]

/-- Work on heads leaves what mode, service units and live inputs owe each other. -/
theorem HeadWork.units {s t : State} (h : HeadWork s t) : UnitsKept s t where
  toWiresKept := h.toWiresKept
  serviced := h.serviced_iff.mpr
  recorded hr := by
    unfold State.recorded at *
    rwa [h.valvePower, h.sense, h.productReady, h.ready, h.drive]
  energized _ he := by
    unfold State.energized at *
    rwa [h.valvePower, h.mode]

/-- The end of a calibration leaves the mode to its caller, so only the wiring is kept (R159, R160). -/
theorem WiresKept.endCalibration (s : State) : WiresKept s s.endCalibration := by
  have refl := (HeadWork.refl s).toWiresKept
  have abandoned : WiresKept s s.abandonRun := by
    unfold State.abandonRun State.endRun
    split
    · split
      · split
        · exact refl
        · exact (HeadWork.goIdle s _).toWiresKept.elsewhere
      · exact refl
    · exact refl
  exact abandoned.elsewhere

/-! ### What the service units and the modes do -/

namespace UnitsKept
variable {s t u : State}

theorem trans (h₁ : UnitsKept s t) (h₂ : UnitsKept t u) : UnitsKept s u where
  toWiresKept := h₁.toWiresKept.trans h₂.toWiresKept
  serviced hs := h₂.serviced (h₁.serviced hs)
  recorded hs := h₂.recorded (h₁.recorded hs)
  energized hs he := h₂.energized (h₁.serviced hs) (h₁.energized hs he)

theorem refl (s : State) : UnitsKept s s := (HeadWork.refl s).units

/-- Fields that neither law reads may be written. -/
theorem elsewhere (h : UnitsKept s t) (hheads : u.heads = t.heads := by rfl)
    (houtputs : u.outputs = t.outputs := by rfl)
    (hprofiles : u.profiles = t.profiles := by rfl) (hdrive : u.drive = t.drive := by rfl)
    (hmode : u.mode = t.mode := by rfl) (hcal : u.cal = t.cal := by rfl) (hcleaning : u.cleaning = t.cleaning := by rfl)
    (hvalvePower : u.valvePower = t.valvePower := by rfl) (hproductReady : u.productReady = t.productReady := by rfl)
    (hline : u.pins.resetHeld = t.pins.resetHeld := by rfl) (hsense : u.pins.valvePower = t.pins.valvePower := by rfl)
    (hready : u.pins.productReady = t.pins.productReady := by rfl) : UnitsKept s u := by
  have hout : ∀ g, u.output g = t.output g := fun g => by unfold State.output; rw [houtputs]
  exact h.trans (HeadWork.of_fields (fun g => by unfold State.head; rw [hheads]) (fun g => by rw [hout])
    (fun g => by rw [hout]) hprofiles hdrive hmode hcal hcleaning hvalvePower hproductReady hline hsense hready).units

theorem toHunt (s : State) : UnitsKept s s.toHunt := (refl s).elsewhere

theorem foldl {α : Type} {f : State → α → State} (hf : ∀ u a, UnitsKept u (f u a)) :
    ∀ (l : List α) (s : State), UnitsKept s (l.foldl f s)
  | [], s => refl s
  | a :: l, s => (hf s a).trans (foldl hf l (f s a))

/-- A mode without a service unit may follow another one, and one with valve power not HALTED without it. -/
theorem setMode {m : Mode} (hm : s.mode ≠ .cleaning ∧ s.mode ≠ .calibration) (hn : m ≠ .cleaning ∧ m ≠ .calibration)
    (hp : s.mode = .halted → m = .halted ∨ s.valvePower = true) : UnitsKept s (s.setMode m) where
  line := rfl
  interlocked _ := id
  wired _ := id
  serviced hs := ⟨hs.1.of_modes rfl hm.1 hn.1, hs.2.of_modes rfl hm.2 hn.2⟩
  recorded := id
  energized _ he := he.elim .inl fun hh => (hp hh).symm

/-- In CALIBRATION CU may take another state than IDLE, with another last result. -/
theorem setCal (hm : s.mode = .calibration) {x : CalState} (hx : x ≠ .idle) (last : Option CalResult) :
    UnitsKept s { s with cal := { s.cal with state := x, last := last } } where
  line := rfl
  interlocked _ := id
  wired _ := id
  serviced hs := by
    obtain ⟨hclean, hstate, -, hset⟩ := hs
    refine ⟨hclean, by simp [hx, hm], fun hi => absurd hi hx, fun _ => hset ?_⟩
    rw [Ne, hstate]; exact fun hne => hne hm
  recorded := id
  energized _ := id

/-- START CLEANING (R163): STANDBY, which has valve power, gives way to CLEANING with its run. -/
theorem startCleaning (hm : s.mode = .standby) {c : Cleaning} (hphase : c.phase = .openPhase)
    (hresult : c.result = .running) (htimer : c.timer.isSome = true) (hplan : c.plan.isSome = true) :
    UnitsKept s { s with cleaning := c, mode := .cleaning } where
  line := rfl
  interlocked _ := id
  wired _ := id
  serviced hs := ⟨⟨by simp [hphase], by simp [hresult], by simp [htimer], fun _ => hplan⟩,
    hs.2.of_modes rfl (by rw [hm]; decide) (by simp)⟩
  recorded := id
  energized _ he := .inl (he.resolve_right (by rw [hm]; decide))

/-- START CALIBRATION (R153): likewise, with CU ARMED. -/
theorem startCalibration (hm : s.mode = .standby) (h : HeadId) {target : Nat}
    (ht : between 10000 3000000 target = true) :
    UnitsKept s { s with
      cal := { s.cal with head := some h, target := some target, state := .armed }
      mode := .calibration } where
  line := rfl
  interlocked _ := id
  wired _ := id
  serviced hs := by
    simp only [between, Bool.and_eq_true, decide_eq_true_eq] at ht
    exact ⟨hs.1.of_modes rfl (by rw [hm]; decide) (by simp), by simp, fun hi => (nomatch hi),
      fun _ => ⟨rfl, target, rfl, ht⟩⟩
  recorded := id
  energized _ he := .inl (he.resolve_right (by rw [hm]; decide))

/-- In CLEANING a phase may begin with its timer, and the cycle be counted (R164, R165). -/
theorem setPhase (hclean : s.serviced → s.mode = .cleaning) {c : Cleaning} (hphase : c.phase ≠ .idle)
    (htimer : c.timer.isSome = true) (hresult : c.result = s.cleaning.result) (hplan : c.plan = s.cleaning.plan) :
    UnitsKept s { s with cleaning := c } where
  line := rfl
  interlocked _ := id
  wired _ := id
  serviced hs := by
    have hm := hclean hs
    obtain ⟨⟨-, hrun, -, hloaded⟩, hcal⟩ := hs
    refine ⟨⟨by simp [hm, hphase], hresult ▸ hrun, by simp [hm, htimer], hplan ▸ hloaded⟩, hcal⟩
  recorded := id
  energized _ := id

/-- Volumes, marks and counts of a cleaning run may be written. -/
theorem setVolumes {c : Cleaning} (hphase : c.phase = s.cleaning.phase) (hresult : c.result = s.cleaning.result)
    (htimer : c.timer = s.cleaning.timer) (hplan : c.plan = s.cleaning.plan) :
    UnitsKept s { s with cleaning := c } where
  line := rfl
  interlocked _ := id
  wired _ := id
  serviced hs := ⟨hs.1.of_fields hphase hresult htimer hplan rfl, hs.2⟩
  recorded := id
  energized _ := id

/-- A cleaning run is over, in the mode that follows a service mode (R142, R165, R167). -/
theorem cleaningOver (hclean : s.serviced → s.mode = .cleaning) {r : CleaningResult} (hr : r ≠ .running) {m : Mode}
    (hm : m ≠ .cleaning ∧ m ≠ .calibration) : UnitsKept s { s with cleaning := s.cleaning.over r, mode := m } where
  line := rfl
  interlocked _ := id
  wired _ := id
  serviced hs :=
    ⟨by simp [CleaningFitsMode, Cleaning.over, hm.1, hr], hs.2.of_modes rfl (by rw [hclean hs]; decide) hm.2⟩
  recorded := id
  energized hs he := .inl (he.resolve_right (by rw [hclean hs]; decide))

/-- The end of a cleaning run takes the driven heads to IDLE first. -/
theorem releaseOver (hclean : s.serviced → s.mode = .cleaning) {r : CleaningResult} (hr : r ≠ .running) {m : Mode}
    (hm : m ≠ .cleaning ∧ m ≠ .calibration) :
    UnitsKept s { s.releaseDriven with cleaning := s.cleaning.over r, mode := m } := by
  have released := HeadWork.releaseDriven s
  generalize s.releaseDriven = t at released ⊢
  rw [← released.cleaning]
  exact released.units.trans
    (cleaningOver (fun ht => released.mode.trans (hclean (released.serviced_iff.mp ht))) hr hm)

theorem endCycle (hclean : s.serviced → s.mode = .cleaning) (plan : CleaningPlan) : UnitsKept s (s.endCycle plan) := by
  unfold State.endCycle State.nextCycle State.completeCleaning
  split
  · refine trans ?_ (HeadWork.driveTo _ _).units
    exact setPhase hclean (by simp) rfl rfl rfl
  · exact releaseOver hclean (by decide) (afterService_modes s)

theorem endOpenPhase (hclean : s.serviced → s.mode = .cleaning) (plan : CleaningPlan) :
    UnitsKept s (s.endOpenPhase plan) := by
  unfold State.endOpenPhase
  dsimp only
  split
  · refine trans ?_ (endCycle (s := { s with cleaning := s.cleaning.countOpen }) hclean plan)
    exact setVolumes rfl rfl rfl rfl
  · refine trans ?_ (HeadWork.driveTo _ _).units
    exact setPhase hclean (by simp) rfl rfl rfl

/-! ### The end of DRAINING and of a calibration run -/

theorem judgeDrain (s : State) : UnitsKept s s.judgeDrain := by
  unfold State.judgeDrain
  split
  · next hd =>
    have entered : UnitsKept s (s.setMode .standby) :=
      setMode (by rw [hd.1]; decide) (by decide) fun hm => absurd (hd.1.symm.trans hm) (by decide)
    exact entered.trans ((HeadWork.foldl HeadWork.reportSkipped allHeads _).trans (.clearHeads _)).units
  · exact refl s

theorem leaveFlight (s : State) (h : HeadId) (c : CycleState) (tm : Option Timer) :
    UnitsKept s (s.leaveFlight h c tm) := (HeadWork.enter s h c tm).units.trans (judgeDrain _)

theorem leaveToIdle (s : State) (h : HeadId) : UnitsKept s (s.leaveToIdle h) :=
  (HeadWork.goIdle s h).units.trans (judgeDrain _)

theorem abortFill (s : State) (h : HeadId) (v : Verdict) : UnitsKept s (s.abortFill h v) := by
  unfold State.abortFill
  split
  · exact refl s
  · exact ((HeadWork.reportFill s h v).trans (.setVent _ h _)).units.trans (leaveFlight _ h _ _)

theorem endFill (s : State) (h : HeadId) (v : Verdict) : UnitsKept s (s.endFill h v) :=
  (HeadWork.reportFill s h v).units.trans (leaveToIdle _ h)

theorem endRun (hm : s.mode = .calibration) (h : HeadId) (o : CalOutcome) {x : CalState} (hx : x ≠ .idle) :
    UnitsKept s (s.endRun h o x) := by
  have idled := HeadWork.goIdle s h
  unfold State.endRun
  split
  · exact refl s
  · generalize s.goIdle h = t at idled ⊢
    rw [← idled.cal]
    exact idled.units.trans (setCal (idled.mode.trans hm) hx _)

theorem finishSnift (s : State) (h : HeadId) : UnitsKept s (s.finishSnift h) := by
  unfold State.finishSnift State.completeRun
  split
  · exact refl s
  · split
    · next hm =>
      split
      · exact refl s
      · exact endRun hm h _ (afterRun_runOutcome _)
    · exact (HeadWork.reportFill s h _).units.trans (leaveFlight _ h _ _)

theorem finishSettle (s : State) (h : HeadId) : UnitsKept s (s.finishSettle h) := by
  unfold State.finishSettle
  split
  · exact refl s
  · next c _ =>
    dsimp only
    have learned : UnitsKept s (if s.mode = .calibration then s
        else (s.learn h c).updHead h fun x => { x with fill := some (learnedContext (s.recipe c.slot) c) }) := by
      split
      · exact refl s
      · rw [(s.learn_spec h c).1]
        exact (refl s).elsewhere.trans (HeadWork.updHead _ h).units
    split
    · exact learned.trans (finishSnift _ h)
    · exact learned.trans (HeadWork.enter _ h _ _).units

theorem burst (s : State) (h : HeadId) : UnitsKept s (s.burst h) := by
  unfold State.burst
  split
  · next hm => exact endRun hm h _ (by decide)
  · exact abortFill s h _

/-- A run starts in CALIBRATION, which CU is then in DOSING for (R154). -/
theorem startRun (hm : s.mode = .calibration) (h : HeadId) : UnitsKept s (s.startRun h) := by
  have entered := HeadWork.enterPressurize s h
  unfold State.startRun
  split
  · exact refl s
  · generalize s.enterPressurize h = t at entered ⊢
    rw [← entered.cal]
    exact entered.units.trans (setCal (entered.mode.trans hm) (by decide) t.cal.last)

/-! ### Halts -/

/-- END CALIBRATION (R159): CU in IDLE, the mode that follows a service mode. -/
theorem endCalibration (hm : s.mode = .calibration) {m : Mode} (hn : m ≠ .cleaning ∧ m ≠ .calibration) :
    UnitsKept s (s.endCalibration.setMode m) := by
  obtain ⟨hframe, -⟩ := s.endCalibration_spec
  have wires := WiresKept.endCalibration s
  generalize s.endCalibration = t at hframe wires ⊢
  refine ⟨wires.elsewhere, fun hs => ⟨?_, ?_⟩, fun hr => ?_, fun _ he => .inl ?_⟩
  · exact hs.1.of_modes (by rw [State.setMode_cleaning, hframe]) (by rw [hm]; decide) hn.1
  · exact CalibrationFitsMode.of_idle (last := s.resultCut) (by rw [State.setMode_cal, hframe]) hn.2
  · rw [hframe]; exact hr
  · rw [hframe]; exact he.resolve_right (by rw [hm]; decide)

theorem haltAll (s : State) : UnitsKept s s.haltAll := by
  obtain ⟨hended, -⟩ := s.endCalibration_spec
  have wires := WiresKept.endCalibration s
  have halted := HeadWork.haltHeads s.endCalibration
  unfold State.haltAll
  dsimp only
  generalize s.endCalibration = u at hended wires halted ⊢
  generalize u.haltHeads = v at halted ⊢
  have hcleaning : v.cleaning = s.cleaning := by rw [halted.cleaning, hended]
  refine ⟨(wires.trans halted.toWiresKept).elsewhere, fun hs => ?_, fun hr => ?_, fun _ _ => .inr rfl⟩
  · exact ⟨hs.1.of_stopped (by rw [← hcleaning]) (by simp),
      CalibrationFitsMode.of_idle (last := s.resultCut) (by rw [halted.cal, hended]) (by simp)⟩
  · have hr' : u.recorded := by unfold State.recorded; rw [hended]; exact hr
    exact halted.units.recorded hr'

theorem faultTracker (s : State) : UnitsKept s s.faultTracker := by
  unfold State.faultTracker
  dsimp only
  generalize ht : State.raise { s with tracker := { s.tracker with status := .faulted } } .encoderFault = t
  have latched : UnitsKept s t := by rw [← ht]; exact (refl s).elsewhere
  have work := HeadWork.haltHeads t
  have halted : ∀ {u}, HeadWork t u → t.mode ≠ .cleaning ∧ t.mode ≠ .calibration → UnitsKept s (u.setMode .halted) :=
    fun hw hm => (latched.trans hw.units).trans (setMode (by rwa [hw.mode]) (by decide) fun _ => .inl rfl)
  cases hm : t.mode with
  | standby => exact halted (.refl t) (by rw [hm]; decide)
  | production | draining => exact halted work (by rw [hm]; decide)
  | halted | cleaning | calibration => exact latched

/-! ### The encoder, contacts and scans -/

theorem discharge (s : State) (h : HeadId) : UnitsKept s (s.discharge h) := by
  rw [State.discharge_eq]
  split
  · exact (HeadWork.dischargeHead s h).units.trans (judgeDrain _)
  · exact (HeadWork.dischargeHead s h).units

theorem takeArrival (s : State) (a : Arrival) : UnitsKept s (s.takeArrival a) := by
  unfold State.takeArrival
  split
  · split
    · exact (HeadWork.infeed s _).units
    · exact (HeadWork.latestClose s _).units
    · exact discharge s _
  · exact refl s

theorem stepForward (s : State) : UnitsKept s s.stepForward := by
  unfold State.stepForward
  dsimp only
  split
  · exact (refl s).elsewhere
  · split
    · unfold State.cross
      refine trans ?_ (foldl takeArrival _ _)
      exact (refl s).elsewhere
    · exact (refl s).elsewhere

theorem stepBackward (s : State) : UnitsKept s s.stepBackward := by
  unfold State.stepBackward
  dsimp only
  split
  · exact (refl s).elsewhere.trans (faultTracker _)
  · exact (refl s).elsewhere

theorem markIndex (s : State) : UnitsKept s s.markIndex := by
  have stepped := stepForward s
  unfold State.markIndex State.checkIndex
  generalize s.stepForward = t at stepped ⊢
  dsimp only
  split
  · exact stepped.elsewhere
  · split
    · exact stepped.elsewhere
    · split
      · exact stepped.elsewhere.trans (faultTracker _)
      · exact stepped.elsewhere

theorem contactCame (s : State) (h : HeadId) : UnitsKept s (s.contactCame h) := by
  unfold State.contactCame
  split
  · next hm =>
    split
    · exact startRun hm h
    · exact refl s
  · split
    · split
      · exact (HeadWork.updHead s h).units.trans (leaveFlight _ h _ _)
      · exact (HeadWork.enterPressurize s h).units
    · exact (HeadWork.updHead s h).units
    all_goals exact refl s

theorem contactWent (s : State) (h : HeadId) : UnitsKept s (s.contactWent h) := by
  unfold State.contactWent
  cases (s.head h).cycle with
  | pressurize | fillSoft | fillFast | fillTopUp | closing => exact burst s h
  | snift =>
    dsimp only
    split
    · next hm => exact endRun hm h _ (by decide)
    · exact endFill s h _
  | _ => exact refl s

theorem scanLanes (s : State) (b : BankId) : UnitsKept s (s.scanLanes b) := by
  obtain ⟨lanes, heads, counters, hframe⟩ := scanLanes_frame s b
  have hhead : ∀ g, ((s.scanLanes b).head g).profile = (s.head g).profile := fun g => by
    obtain ⟨f, e, -⟩ := head_scanLanes_fill s b g
    rw [e]
  rw [hframe] at hhead ⊢
  have work : HeadWork s { s with lanes := lanes, heads := heads } := .of_fields hhead
  exact work.units.trans (setVolumes rfl rfl rfl rfl)

theorem takeDecision (s : State) (h : HeadId) (d : Decision) : UnitsKept s (s.takeDecision d h) := by
  cases d with
  | stay => exact refl s
  | close => exact (HeadWork.enterClosing s h false).units
  | toTopUp => exact (HeadWork.enter s h _ _).units
  | toFast => exact (HeadWork.enter s h _ _).units
  | abortStuck =>
    unfold State.takeDecision State.stuckAbort
    dsimp only
    split
    · next hm => exact endRun hm h _ (by decide)
    · exact abortFill s h _

theorem scanBank (s : State) (b : BankId) : UnitsKept s (s.scanBank b) := by
  have moved := (scanLanes s b).trans (foldl (fun u h => takeDecision u h (s.decision h)) (s.movedBy b) _)
  exact trans moved.elsewhere (foldl (fun u h => takeDecision u h .abortStuck) _ _)

end UnitsKept

/-! ### Requests and the reset of a RESTART -/

theorem output_deriveTerminalsWhere_eq (s : State) (p : Head → Bool) (g : HeadId) :
    (s.deriveTerminalsWhere p).output g = if p (s.head g) then
      { s.output g with terminals := terminalsOf s.drive (s.profileOf g) (s.output g).opened }
    else s.output g := vector_ofFn_get _ _

theorem profileOf_deriveTerminalsWhere (s : State) (p : Head → Bool) (g : HeadId) :
    (s.deriveTerminalsWhere p).profileOf g = s.profileOf g :=
  State.profileOf_congr (by simp) (by unfold State.head; rw [State.deriveTerminalsWhere_heads])

/-- A derivation of terminals leaves every open set, and wires the heads it reaches (R109). -/
theorem deriveTerminalsWhere_wires (s : State) (p : Head → Bool) (g : HeadId) :
    ((s.deriveTerminalsWhere p).output g).opened = (s.output g).opened ∧
      (p (s.head g) = true ∨ s.wired g → (s.deriveTerminalsWhere p).wired g) := by
  unfold State.wired
  rw [output_deriveTerminalsWhere_eq, profileOf_deriveTerminalsWhere, State.deriveTerminalsWhere_drive]
  split
  · exact ⟨rfl, fun _ => rfl⟩
  · next hp => exact ⟨rfl, fun hs => hs.resolve_left hp⟩

theorem setValveProfile_kept (s : State) (k : ProfileId) (p : ValveProfile) : UnitsKept s
    ({ s with profiles := s.profiles.set k p }.deriveTerminalsWhere fun x => decide (x.profile = k)) := by
  have derive := deriveTerminalsWhere_wires { s with profiles := s.profiles.set k p } fun x => decide (x.profile = k)
  refine ⟨⟨by simp, fun g hg => ?_, fun g hg => (derive g).2 ?_⟩, fun hs => ?_, fun hr => ?_, fun _ he => ?_⟩
  · rw [(derive g).1]; exact hg
  · by_cases hk : (s.head g).profile = k
    · exact .inl (decide_eq_true hk)
    · refine .inr (State.wired_congr (s := s) rfl rfl rfl ?_ hg)
      show (s.profiles.set k p)[(s.head g).profile] = _
      rw [vector_set_get, if_neg hk]; rfl
  · unfold State.serviced CleaningFitsMode CalibrationFitsMode at *; simpa using hs
  · unfold State.recorded at *; simpa using hr
  · unfold State.energized at *; simpa using he

theorem setHead_kept (s : State) (h : HeadId) (p : ProfileId) (factor : Nat) :
    UnitsKept s ((s.updHead h fun x => { x with profile := p, factor := factor }).deriveTerminals h) := by
  have hout : ∀ g, ((s.updHead h fun x => { x with profile := p, factor := factor }).deriveTerminals h).output g =
      if g = h then { s.output h with terminals := terminalsOf s.drive s.profiles[p] (s.output h).opened }
      else s.output g := fun g => by rw [setHead_written]; exact vector_set_get _ _ _ _
  have hprofile : ∀ g,
      ((s.updHead h fun x => { x with profile := p, factor := factor }).deriveTerminals h).profileOf g =
        if g = h then s.profiles[p] else s.profileOf g := fun g => by
    unfold State.profileOf
    by_cases e : g = h <;> simp [e]
  refine ⟨⟨rfl, fun g hg => ?_, fun g hg => ?_⟩, fun hs => hs, fun hr => hr, fun _ he => he⟩
  · rw [hout]
    split
    · next e => subst e; exact hg
    · exact hg
  · unfold State.wired at *
    rw [hout, hprofile]
    split
    · rfl
    · exact hg

theorem Served.unitsKept {s t : State} {i : Instr} (h : Served s i t) : UnitsKept s t := by
  have refl := UnitsKept.refl s
  cases h with
  | setValveProfile k p hm => exact setValveProfile_kept s k p
  | setHead h p hm hf hz => exact setHead_kept s h p _
  | enableHeads mask hf => exact (HeadWork.setEnable s mask).units
  | disableHeads mask => exact (HeadWork.setEnable s mask).units
  | loadRecipe k r hb hr => rw [clearColumn_eq]; exact refl.elsewhere
  | unloadRecipe k hb => rw [clearColumn_eq]; exact refl.elsewhere
  | bindRecipe mask target hk =>
    refine bindMask_keeps (P := UnitsKept s) (fun u h hu => ?_) mask refl
    obtain ⟨a, p, e, -⟩ := bindHead_cases target u h
    rw [e]; exact hu.trans (HeadWork.assignSlots u h a p).units
  | restoreCorrections k values hm hk => rw [State.dropReservationOn_eq]; exact refl.elsewhere
  | startProduction hm hr =>
    have entered : UnitsKept s (s.setMode .production) :=
      .setMode (by rcases hm with hm | hm <;> rw [hm] <;> decide) (by decide)
        fun hh => by rcases hm with hm | hm <;> cases hm.symm.trans hh
    exact entered.elsewhere
  | drain hm =>
    refine UnitsKept.trans ?_ (.judgeDrain _)
    exact .setMode (by rw [hm]; decide) (by decide) fun hh => by cases hm.symm.trans hh
  | stopCleaning hm => exact .releaseOver (fun _ => hm) (by decide) (afterService_modes s)
  | halt broadcast => exact .haltAll s
  | clearHalt hm hv tracker ht =>
    have entered : UnitsKept s (s.setMode .standby) := .setMode (by rw [hm]; decide) (by decide) fun _ => .inr hv
    exact entered.elsewhere
  | startCleaning openTime pauseTime cycles hm hp =>
    exact (UnitsKept.startCleaning hm rfl rfl rfl rfl).trans (HeadWork.driveTo _ _).units
  | startCalibration h target hm ht hf ha => exact .startCalibration hm h ht
  | enterActualVolume volume h run last new hm hc hh hl hn =>
    have written := HeadWork.updHead s h (f := fun x => { x with factor := new })
    generalize s.updHead h (fun x => { x with factor := new }) = t at written ⊢
    rw [← written.cal]
    exact written.units.trans (.setCal (written.mode.trans hm) (by decide) _)
  | endCalibration hm => exact .endCalibration hm (afterService_modes s)
  | _ => exact refl.elsewhere

/-- After a reset both service units are idle, in STANDBY or HALTED (R149, R161, R169). -/
theorem serviced_of_reset {t : State} {b : Bool} (hm : t.mode = Mode.afterReset b)
    (hcleaning : t.cleaning = Cleaning.cleared) (hcal : t.cal = Calibration.cleared) : t.serviced := by
  obtain ⟨hclean, hcalibrate⟩ := afterReset_modes b
  refine ⟨?_, CalibrationFitsMode.of_idle (last := none) hcal (hm ▸ hcalibrate)⟩
  unfold CleaningFitsMode
  rw [hcleaning, hm]
  simp [Cleaning.cleared, hclean]

/-- The mode after a reset is HALTED where valve power is absent (R149, R150). -/
theorem energized_of_reset {t : State} {b : Bool} (hm : t.mode = Mode.afterReset b) (hv : t.valvePower = b) :
    t.energized := by
  unfold State.energized
  rw [hm, hv]
  cases b with
  | true => exact .inl rfl
  | false => exact .inr rfl

theorem restart_kept (s : State) : UnitsKept s s.restart := by
  have hprofile : ∀ g, s.restart.profileOf g = s.profileOf g := fun g =>
    State.profileOf_congr rfl (by rw [head_restart]; rfl)
  refine ⟨⟨rfl, fun g _ => ?_, fun g _ => ?_⟩, fun _ => serviced_of_reset rfl rfl rfl,
    fun ⟨_, _, hdrive⟩ => ⟨rfl, rfl, hdrive⟩, fun _ _ => energized_of_reset rfl rfl⟩
  · rw [output_restart, derived_eq]; exact interlocked_openSet _ _ _
  · unfold State.wired
    rw [output_restart, derived_eq, hprofile]; rfl

/-! ### Commands -/

theorem takeFrame_kept (frame : List Byte) (s : State) : UnitsKept s (takeFrame frame s) := by
  have hunted := UnitsKept.toHunt s
  have served : UnitsKept s (serveRequest (byteAt frame 2) (framePayload frame) s.toHunt).1 := by
    unfold serveRequest
    split
    · exact hunted.trans (answerRequest_served _ _).unitsKept
    · exact hunted
    · exact hunted
  unfold takeFrame
  dsimp only
  split
  · exact hunted
  · split
    · split
      · exact hunted.trans (.haltAll _)
      · exact hunted
    · split
      · exact served.elsewhere
      · exact hunted

theorem receiveByte_kept (b : Byte) (s : State) : UnitsKept s (receiveByte b s) := by
  have refl := UnitsKept.refl s
  unfold receiveByte
  split
  · split
    · exact refl.elsewhere
    · exact refl
  · dsimp only
    split
    · exact refl.elsewhere
    · exact refl.elsewhere
    · exact takeFrame_kept _ s
  · exact refl

/-- The commands that write the valve power or product-ready level, or the reset line, or reset by it. -/
def writesLevels : Instr → Bool
  | .valvePowerLoss => true
  | .valvePowerReturn => true
  | .productReadyChange _ => true
  | .powerOn _ => true
  | .resetLineAssert => true
  | .resetLineRelease _ => true
  | _ => false

theorem exec_kept {c : Instr} {s t : State} (hc : writesLevels c = false) (he : exec c s = .next t) :
    UnitsKept s t := by
  have refl := UnitsKept.refl s
  have event : ∀ {u : State} {body : State → State}, UnitsKept s u → UnitsKept u (body u) →
      UnitsKept s (event body u) := fun hu hb => event_cases _ hu (hu.trans hb)
  have moved : ∀ {f : State → State}, UnitsKept s (f s) →
      UnitsKept s (Machine.event (fun u => if u.tracker.status = .faulted then u else f u) s) := by
    intro f hf
    refine event refl ?_
    split
    · exact refl
    · exact hf
  have expired : ∀ {cycle kind h act}, UnitsKept s (act s) → UnitsKept s (onExpiry cycle kind h act s) := by
    intro cycle kind h act ha
    refine event refl ?_
    split
    · exact ha
    · exact refl
  by_cases hr : isRequest c = true
  · obtain ⟨code, e⟩ := exec_of_isRequest hr s
    cases e.symm.trans he
    exact transact_cases code _ refl (answerRequest_served c s).unitsKept fun _ _ hu => hu.elsewhere
  · cases c with
    | halt broadcast =>
      cases broadcast with
      | false => exact absurd rfl hr
      | true =>
        cases he
        rw [if_pos rfl]
        refine event refl ?_
        split
        · exact refl
        · exact (UnitsKept.haltAll s).trans (.toHunt _)
    | byteArrival b => cases he; exact event refl (receiveByte_kept b s)
    | gapTimerExpiry =>
      cases he
      refine event refl ?_
      split
      · exact refl.elsewhere
      · exact refl
    | replySent =>
      cases he
      refine event refl ?_
      split
      · split
        · exact restart_kept s
        · exact refl.elsewhere
      · exact refl
    | encoderForwardStep => cases he; exact moved (.stepForward s)
    | encoderBackwardStep => cases he; exact moved (.stepBackward s)
    | indexMarkStep => cases (execIndexMarkStep_eq s).symm.trans he; exact moved (.markIndex s)
    | quadratureError => cases he; exact moved (.faultTracker s)
    | contactArrival h =>
      cases he
      split
      · exact refl
      · exact event (u := s.putContact h true) refl.elsewhere (.contactCame _ h)
    | contactLoss h =>
      cases he
      split
      · exact event (u := s.putContact h false) refl.elsewhere (.contactWent _ h)
      · exact refl
    | contactWindowExpiry h => cases he; exact expired (.leaveToIdle s h)
    | pressurizeDwellExpiry h => cases he; exact expired (HeadWork.enter s h _ _).units
    | settleExpiry h => cases he; exact expired (.finishSettle s h)
    | sniftDwellExpiry h => cases he; exact expired (.finishSnift s h)
    | ventDwellExpiry h => cases he; exact expired (HeadWork.endVent s h).units
    | millisecondTick => cases he; exact event refl refl.elsewhere
    | flowmeterPulse h => cases he; exact event refl refl.elsewhere
    | bankScan b => cases he; exact event refl (.scanBank s b)
    | openPhaseExpiry =>
      cases he
      refine event refl ?_
      split
      · split
        · next plan _ hp => exact .endOpenPhase (fun hs => hs.cleaning (by rw [hp]; decide)) plan
        · exact refl
      · exact refl
    | pausePhaseExpiry =>
      cases he
      refine event refl ?_
      split
      · split
        · next plan _ hp => exact .endCycle (fun hs => hs.cleaning (by rw [hp]; decide)) plan
        · exact refl
      · exact refl
    | valvePowerLoss | valvePowerReturn | productReadyChange | powerOn | resetLineAssert | resetLineRelease => cases hc
    | _ => exact absurd rfl hr

/-! ### Valve power -/

/-- Every terminal is dropped, and nothing else (R111, R150). -/
theorem State.dropTerminals_eq (s : State) : ∃ outputs : Vector HeadOutputs 64,
    (∀ h : HeadId, outputs[h] = { s.output h with terminals := Outputs.allOff }) ∧
      s.dropTerminals = { s with outputs := outputs } := ⟨_, fun _ => vector_ofFn_get _ _, rfl⟩

/-- A valve power loss drops the terminals, latches its alarm and halts (R111, R140). -/
theorem State.losePower_eq (s : State) : ∃ outputs : Vector HeadOutputs 64,
    (∀ h : HeadId, outputs[h] = { s.output h with terminals := Outputs.allOff }) ∧
      s.losePower = State.haltAll { s with
        drive := .unpowered
        valvePower := false
        outputs := outputs
        alarms := { s.alarms with valvePowerLost := true } } := by
  obtain ⟨outputs, hout, e⟩ := s.dropTerminals_eq
  exact ⟨outputs, hout, by unfold State.losePower; rw [e]; rfl⟩

/-- A valve power return powers the strings and derives every terminal (R113, R140). -/
theorem State.regainPower_eq (s : State) : ∃ outputs : Vector HeadOutputs 64,
    (∀ h : HeadId, outputs[h] =
      { s.output h with terminals := terminalsOf .powered (s.profileOf h) (s.output h).opened }) ∧
      s.regainPower = { s with drive := .powered, valvePower := true, outputs := outputs } :=
  ⟨_, fun _ => vector_ofFn_get _ _, rfl⟩

end Sys2Proof.Machine
end

section
/-! PROPERTY. The law of the service units and the valve power (R111, R140, R152, R162) and the law of the valves (R107,
R109, R111) through every step. -/

namespace Sys2Proof.Machine

/-! ### Service units and valve power -/

/-- A command at a released line leaves both halves of the law; at a held one only the service units matter. -/
theorem ServiceAndPowerLaw.kept {s t : State} (hs : ServiceAndPowerLaw s) (hk : UnitsKept s t) :
    ServiceAndPowerLaw t := by
  rw [serviceAndPowerLaw_iff] at *
  obtain ⟨hserv, hpower⟩ := hs
  refine ⟨hk.serviced hserv, fun hl => ?_⟩
  obtain ⟨hrec, hen⟩ := hpower (hk.line ▸ hl)
  exact ⟨hk.recorded hrec, hk.energized hserv hen⟩

theorem powerOnWith_serviceAndPowerLaw (pins : Pins) (s : State) : ServiceAndPowerLaw (s.powerOnWith pins) :=
  (serviceAndPowerLaw_iff _).mpr ⟨serviced_of_reset (b := pins.valvePower) rfl rfl rfl,
    fun _ => ⟨⟨rfl, rfl, rfl⟩, energized_of_reset rfl rfl⟩⟩

/-- An event that changes a level: where the line is held the law asks nothing of the levels. -/
theorem event_serviceAndPowerLaw {s : State} {body : State → State} (hs : s.serviced)
    (hb : s.pins.resetHeld = false → ServiceAndPowerLaw (body s)) : ServiceAndPowerLaw (event body s) := by
  unfold event
  split
  · next hl => exact (serviceAndPowerLaw_iff s).mpr ⟨hs, fun h => absurd (hl.symm.trans h) (by decide)⟩
  · next hl => exact hb (Bool.eq_false_iff.mpr hl)

/-- A loss halts the D64, which is the one mode without valve power (R140). -/
theorem losePower_serviceAndPowerLaw {s : State} (hs : s.serviced) (hready : s.productReady = s.pins.productReady)
    (hsense : s.pins.valvePower = false) : ServiceAndPowerLaw s.losePower := by
  obtain ⟨outputs, -, e⟩ := s.losePower_eq
  rw [e, serviceAndPowerLaw_iff]
  have halted := UnitsKept.haltAll { s with
    drive := .unpowered
    valvePower := false
    outputs := outputs
    alarms := { s.alarms with valvePowerLost := true } }
  exact ⟨halted.serviced hs, fun _ => ⟨halted.recorded ⟨hsense.symm, hready, by rw [hsense]; rfl⟩, .inr rfl⟩⟩

theorem regainPower_serviceAndPowerLaw {s : State} (hs : s.serviced) (hready : s.productReady = s.pins.productReady)
    (hsense : s.pins.valvePower = true) : ServiceAndPowerLaw s.regainPower := by
  obtain ⟨outputs, -, e⟩ := s.regainPower_eq
  rw [e, serviceAndPowerLaw_iff]
  exact ⟨hs, fun _ => ⟨⟨hsense.symm, hready, by rw [hsense]; rfl⟩, .inl rfl⟩⟩

theorem exec_keeps_serviceAndPowerLaw {c : Instr} {s t : State} (hs : ServiceAndPowerLaw s)
    (he : exec c s = .next t) : ServiceAndPowerLaw t := by
  obtain ⟨hserv, hpower⟩ := (serviceAndPowerLaw_iff s).mp hs
  cases hw : writesLevels c with
  | false => exact hs.kept (exec_kept hw he)
  | true =>
    cases c with
    | valvePowerLoss =>
      cases he
      split
      · refine event_serviceAndPowerLaw (s := s.putSense false) hserv fun hl => ?_
        obtain ⟨⟨-, hready, -⟩, -⟩ := hpower hl
        exact losePower_serviceAndPowerLaw hserv hready rfl
      · exact hs
    | valvePowerReturn =>
      cases he
      split
      · exact hs
      · refine event_serviceAndPowerLaw (s := s.putSense true) hserv fun hl => ?_
        obtain ⟨⟨-, hready, -⟩, -⟩ := hpower hl
        exact regainPower_serviceAndPowerLaw hserv hready rfl
    | productReadyChange high =>
      cases he
      refine event_serviceAndPowerLaw (s := { s with pins := { s.pins with productReady := high } }) hserv fun hl => ?_
      obtain ⟨⟨hsense, -, hdrive⟩, hen⟩ := hpower hl
      exact (serviceAndPowerLaw_iff _).mpr ⟨hserv, fun _ => ⟨⟨hsense, rfl, hdrive⟩, hen⟩⟩
    | powerOn pins => cases he; exact powerOnWith_serviceAndPowerLaw _ s
    | resetLineAssert =>
      obtain ⟨outputs, -, e⟩ := s.dropTerminals_eq
      cases he
      rw [e, serviceAndPowerLaw_iff]
      exact ⟨hserv, fun hl => nomatch hl⟩
    | resetLineRelease switches =>
      cases he
      split
      · exact powerOnWith_serviceAndPowerLaw _ s
      · exact hs
    | _ => cases hw

/-- Settles O54: the commands that change no level keep each part of the law; a loss halts, a return and a reset record
the levels. -/
theorem stepKeepsServiceAndPowerLaw : Obligations.StepKeepsServiceAndPowerLaw :=
  fun _ _ => step_keeps (fun _ _ => id) exec_keeps_serviceAndPowerLaw

/-! ### Interlocks and terminals -/

theorem ValveLaw.kept {s t : State} (hs : ValveLaw s) (hk : WiresKept s t) : ValveLaw t := by
  rw [valveLaw_iff] at *
  obtain ⟨hint, hwired⟩ := hs
  exact ⟨fun h => hk.interlocked h (hint h), fun hl h => hk.wired h (hwired (hk.line ▸ hl) h)⟩

/-- After a reset nothing is open and every pilot is NORMAL, so no terminal is ENERGIZED (R115). -/
theorem powerOnWith_valveLaw (pins : Pins) (s : State) : ValveLaw (s.powerOnWith pins) := by
  have hout : ∀ h, (s.powerOnWith pins).output h = ⟨Outputs.allOff, false, Outputs.allOff⟩ := fun h => by
    show (Vector.replicate 64 (⟨Outputs.allOff, false, Outputs.allOff⟩ : HeadOutputs))[h] = _; simp
  have hprofile : ∀ h, (s.powerOnWith pins).profileOf h = ValveProfile.powerOn := fun h => by
    show (Vector.replicate 8 ValveProfile.powerOn)[_] = _; simp
  refine (valveLaw_iff _).mpr ⟨fun h => ?_, fun _ h => ?_⟩
  · rw [hout]; exact interlocked_allOff
  · unfold State.wired
    rw [hout, hprofile]
    cases (s.powerOnWith pins).drive <;> rfl

/-- A loss leaves every terminal as an UNPOWERED string has it, and the halt closes every output (R111). -/
theorem losePower_valveLaw {s : State} (hs : ∀ h, (s.output h).opened.interlocked) : ValveLaw s.losePower := by
  obtain ⟨outputs, hout, e⟩ := s.losePower_eq
  rw [e]
  refine ValveLaw.kept ?_ (UnitsKept.haltAll _).toWiresKept
  refine (valveLaw_iff _).mpr ⟨fun h => ?_, fun _ h => ?_⟩
  · show outputs[h].opened.interlocked
    rw [hout]; exact hs h
  · show outputs[h].terminals = Outputs.allOff
    rw [hout]

theorem regainPower_valveLaw {s : State} (hs : ∀ h, (s.output h).opened.interlocked) : ValveLaw s.regainPower := by
  obtain ⟨outputs, hout, e⟩ := s.regainPower_eq
  rw [e]
  refine (valveLaw_iff _).mpr ⟨fun h => ?_, fun _ h => ?_⟩
  · show outputs[h].opened.interlocked
    rw [hout]; exact hs h
  · show outputs[h].terminals = terminalsOf .powered (s.profileOf h) outputs[h].opened
    rw [hout]

theorem exec_keeps_valveLaw {c : Instr} {s t : State} (hs : ValveLaw s) (he : exec c s = .next t) : ValveLaw t := by
  have hint := ((valveLaw_iff s).mp hs).1
  cases hw : writesLevels c with
  | false => exact hs.kept (exec_kept hw he).toWiresKept
  | true =>
    cases c with
    | valvePowerLoss =>
      cases he
      split
      · exact event_cases (P := ValveLaw) (s := s.putSense false) _ hs (losePower_valveLaw hint)
      · exact hs
    | valvePowerReturn =>
      cases he
      split
      · exact hs
      · exact event_cases (P := ValveLaw) (s := s.putSense true) _ hs (regainPower_valveLaw hint)
    | productReadyChange high => cases he; exact event_cases (P := ValveLaw) _ hs hs
    | powerOn pins => cases he; exact powerOnWith_valveLaw _ s
    | resetLineAssert =>
      obtain ⟨outputs, hout, e⟩ := s.dropTerminals_eq
      cases he
      rw [e]
      refine (valveLaw_iff _).mpr ⟨fun h => ?_, fun hl => nomatch hl⟩
      show outputs[h].opened.interlocked
      rw [hout]; exact hint h
    | resetLineRelease switches =>
      cases he
      split
      · exact powerOnWith_valveLaw _ s
      · exact hs
    | _ => cases hw

/-- Settles O56: every derivation of outputs sets an interlocked open set and its terminals; a loss, a return and a
profile derive the terminals anew. -/
theorem stepKeepsTheValveLaw : Obligations.StepKeepsTheValveLaw :=
  fun _ _ => step_keeps (fun _ _ => id) exec_keeps_valveLaw

end Sys2Proof.Machine
end

section
/-! PROPERTY. Valve power loss and return (R111, R113, R140), and SET VALVE PROFILE (R105, R109). -/

namespace Sys2Proof.Machine

/-! ### Valve power loss and return -/

/-- A halt overwrites every output, so what the outputs were before it does not tell. -/
theorem HaltedFrom.of_outputs {s t : State} {outputs : Vector HeadOutputs 64}
    (h : HaltedFrom { s with outputs := outputs } t) : HaltedFrom s t := h

/-- A loss ends in the halt of R139, begun from the dropped terminals. -/
theorem losePower_halted {s : State} (hc : CalibrationFitsMode s) (hh : s.mode = .calibration → HeadsLaw s) :
    HaltedFrom { s with
      drive := .unpowered
      valvePower := false
      alarms := { s.alarms with valvePowerLost := true } } s.losePower := by
  obtain ⟨outputs, hout, e⟩ := s.losePower_eq
  rw [e]
  refine HaltedFrom.of_outputs (outputs := outputs) (State.haltAll_spec hc fun hm => ?_)
  exact (hh hm).terminals rfl (fun h => ⟨_, hout h⟩) rfl rfl rfl rfl

/-- Settles O37: a loss is the halt of R139 with the terminals dropped; a return derives them again. -/
theorem valvePowerLossAndReturn : Obligations.ValvePowerLossAndReturn := by
  constructor
  · intro s hs hsense hc hh
    have arm : exec .valvePowerLoss s = .next (s.putSense false).losePower := by
      show execValvePowerLoss s = _
      unfold execValvePowerLoss
      rw [if_pos hsense, event_of_running (s := s.putSense false) hs]
    exact ⟨_, arm, losePower_halted (s := s.putSense false) hc fun hm => (hh hm).elsewhere⟩
  · intro s hs hsense
    have arm : exec .valvePowerReturn s = .next (s.putSense true).regainPower := by
      show execValvePowerReturn s = _
      unfold execValvePowerReturn
      rw [if_neg (by rw [hsense]; decide), event_of_running (s := s.putSense true) hs]
    obtain ⟨outputs, hout, e⟩ := (s.putSense true).regainPower_eq
    have derived : outputs = Vector.ofFn fun h : HeadId => { s.output h with
        terminals := terminalsOf .powered s.profiles[(s.head h).profile] (s.output h).opened } :=
      vector_ext_fin fun h => by rw [hout, vector_ofFn_get]; rfl
    rw [arm, e, derived]
    rfl

/-! ### SET VALVE PROFILE -/

theorem polarityOfCode_eq (n : Nat) :
    polarityOfCode n = if n ≤ 1 then some (if n = 0 then .normal else .inverted) else none := by
  match n with
  | 0 => rfl
  | 1 => rfl
  | n + 2 => rw [if_neg (by omega)]; rfl

theorem fastDriveOfCode_eq (n : Nat) :
    fastDriveOfCode n = if n ≤ 1 then some (if n = 0 then .wideWithNarrow else .wideAlone) else none := by
  match n with
  | 0 => rfl
  | 1 => rfl
  | n + 2 => rw [if_neg (by omega)]; rfl

/-- The polarity that a code in range stands for (R178). -/
def codedPolarity (n : Nat) : Polarity := if n = 0 then .normal else .inverted

/-- The fields of SET VALVE PROFILE are in range: both lags and the five codes (R105). -/
def fieldsInRange (f : ProfileFields) : Prop :=
  f.openLag ≤ 32767 ∧ f.closingLag ≤ 32767 ∧ f.gasPolarity ≤ 1 ∧ f.widePolarity ≤ 1 ∧ f.narrowPolarity ≤ 1 ∧
    f.sniftPolarity ≤ 1 ∧ f.fastDrive ≤ 1

/-- The profile that fields in range describe (R104, R178). -/
def describedProfile (f : ProfileFields) : ValveProfile :=
  ⟨f.openLag, f.closingLag, codedPolarity f.gasPolarity, codedPolarity f.widePolarity, codedPolarity f.narrowPolarity,
    codedPolarity f.sniftPolarity, if f.fastDrive = 0 then .wideWithNarrow else .wideAlone⟩

theorem profileOfFields_inRange {f : ProfileFields} (hf : fieldsInRange f) :
    profileOfFields f = some (describedProfile f) := by
  obtain ⟨hopen, hclosing, hgas, hwide, hnarrow, hsnift, hdrive⟩ := hf
  unfold profileOfFields
  simp only [polarityOfCode_eq, fastDriveOfCode_eq, hgas, hwide, hnarrow, hsnift, hdrive, hopen, hclosing, and_self,
    if_true]
  rfl

theorem profileOfFields_outOfRange {f : ProfileFields} (hf : ¬ fieldsInRange f) : profileOfFields f = none := by
  have code : ∀ {α : Type} {n : Nat} {x y : α}, (if n ≤ 1 then some x else none) = some y → n ≤ 1 := by
    intro α n x y h
    by_contra hn
    rw [if_neg hn] at h; cases h
  unfold profileOfFields
  simp only [polarityOfCode_eq, fastDriveOfCode_eq]
  split
  · next hgas hwide hnarrow hsnift hdrive =>
    rw [if_neg]
    exact fun hlags => hf ⟨hlags.1, hlags.2, code hgas, code hwide, code hnarrow, code hsnift, code hdrive⟩
  · rfl

/-- SET VALVE PROFILE accepted: the profile, and the terminals of the heads that name it (R105, R109). -/
theorem setValveProfile_written (s : State) (k : ProfileId) (p : ValveProfile) :
    ({ s with profiles := s.profiles.set k p }.deriveTerminalsWhere fun x => decide (x.profile = k)) = { s with
      profiles := s.profiles.set k p
      outputs := Vector.ofFn fun h : HeadId =>
        if (s.head h).profile = k then { s.output h with terminals := terminalsOf s.drive p (s.output h).opened }
        else s.output h } := by
  have named : ∀ h : HeadId, (s.head h).profile = k → (s.profiles.set k p)[(s.head h).profile] = p := fun h hk => by
    rw [vector_set_get, if_pos hk]
  generalize s.profiles.set k p = profiles at named ⊢
  have hout : (fun h : HeadId => if decide ((s.head h).profile = k) then { s.output h with
      terminals := terminalsOf s.drive profiles[(s.head h).profile] (s.output h).opened } else s.output h) =
      fun h : HeadId => if (s.head h).profile = k then
        { s.output h with terminals := terminalsOf s.drive p (s.output h).opened } else s.output h := by
    funext h
    by_cases hk : (s.head h).profile = k
    · rw [if_pos (decide_eq_true hk), if_pos hk, named h hk]
    · rw [if_neg (decide_eq_true_iff.not.mpr hk), if_neg hk]
  exact congrArg (fun f => { s with profiles := profiles, outputs := Vector.ofFn f }) hout

/-- Settles O36: the refusals by mode and fields, then the accepted profile. -/
theorem setValveProfileReplacesTheFields : Obligations.SetValveProfileReplacesTheFields := by
  intro profile f s hs op codes fits wired p
  have arm : op = .next (transact 0x04 (setValveProfile profile f) s) := rfl
  rw [arm, idleMode_eq_configurable]
  refine ⟨fun hm => ?_, fun hm hbad => ?_, fun k hk hm hf => ?_⟩
  · rw [transact_refused hs (st := .wrongMode)]
    unfold setValveProfile
    rw [hm]; rfl
  · rw [transact_refused hs (st := .badField)]
    unfold setValveProfile
    rw [if_pos hm]
    rcases hbad with hprofile | hfields
    · rw [inRange?_ge (by omega)]
    · rw [profileOfFields_outOfRange hfields]
      cases inRange? 8 profile <;> rfl
  · subst hk
    rw [← setValveProfile_written]
    refine congrArg _ (transact_accepted hs ?_)
    unfold setValveProfile
    rw [if_pos hm, inRange?_fin, profileOfFields_inRange hf]
    rfl

end Sys2Proof.Machine
end

section
/-! SUPPORT. What the events of the part do to the report queue: they hand over records, and write nothing else of
it. -/

namespace Sys2Proof.Machine

/-! ### Operations that leave the report queue -/

theorem reports_countFault (s : State) (h : HeadId) (v : Verdict) : (s.countFault h v).reports = s.reports := by
  rw [State.countFault_eq]

theorem reports_enterPressurize (s : State) (h : HeadId) : (s.enterPressurize h).reports = s.reports := by
  cases hw : (s.head h).windowSlot with
  | none => rw [enterPressurize_none hw]
  | some k => rw [(State.enterPressurize_spec (windowSlot_eq_some.mp hw)).1.2]

theorem reports_endRun (s : State) (h : HeadId) (o : CalOutcome) (u : CalState) :
    (s.endRun h o u).reports = s.reports := by
  unfold State.endRun
  split
  · rfl
  · exact State.goIdle_reports s h

theorem reports_learn (s : State) (h : HeadId) (c : FillContext) : (s.learn h c).reports = s.reports := by
  rw [(s.learn_spec h c).1]

theorem reports_endCalibration (s : State) : s.endCalibration.reports = s.reports := by rw [s.endCalibration_spec.1]

theorem reports_foldl {α : Type} {f : State → α → State} (hf : ∀ u a, (f u a).reports = u.reports) (l : List α)
    (s : State) : (l.foldl f s).reports = s.reports :=
  List.foldlRecOn (motive := fun u => u.reports = s.reports) l f rfl fun u hu a _ => (hf u a).trans hu

theorem reports_driveTo (s : State) (c : CycleState) : (s.driveTo c).reports = s.reports :=
  reports_foldl (f := fun u h => u.enter h c none) (fun _ _ => rfl) _ s

theorem reports_releaseDriven (s : State) : s.releaseDriven.reports = s.reports :=
  reports_foldl (f := fun u h => u.goIdle h) State.goIdle_reports _ s

theorem reports_endCycle (s : State) (plan : CleaningPlan) : (s.endCycle plan).reports = s.reports := by
  unfold State.endCycle State.nextCycle State.completeCleaning
  split
  · exact reports_driveTo _ _
  · exact reports_releaseDriven s

theorem reports_endOpenPhase (s : State) (plan : CleaningPlan) : (s.endOpenPhase plan).reports = s.reports := by
  unfold State.endOpenPhase
  dsimp only
  split
  · exact reports_endCycle _ plan
  · exact reports_driveTo _ _

theorem reports_regainPower (s : State) : s.regainPower.reports = s.reports := State.deriveTerminalsWhere_reports _ _

/-! ### Records handed over -/

theorem ReportQueue.filedAll_append (q : ReportQueue) (rs rs' : List Report) :
    (q.filedAll rs).filedAll rs' = q.filedAll (rs ++ rs') := by
  induction rs generalizing q with
  | nil => rfl
  | cons r rs ih => exact ih _

/-- From `s` to `t` RQ takes records, one after the other (R120 to R122, R124), and nothing else is done to it. -/
def HandsOver (s t : State) : Prop := ∃ rs, t.reports = s.reports.filedAll rs

namespace HandsOver
variable {s t u : State}

theorem of_eq (h : t.reports = s.reports) : HandsOver s t := ⟨[], h⟩

theorem refl (s : State) : HandsOver s s := of_eq rfl

theorem trans (h₁ : HandsOver s t) (h₂ : HandsOver t u) : HandsOver s u := by
  obtain ⟨rs, hrs⟩ := h₁
  obtain ⟨rs', hrs'⟩ := h₂
  exact ⟨rs ++ rs', by rw [hrs', hrs, ReportQueue.filedAll_append]⟩

/-- An operation that leaves the report queue may follow. -/
theorem elsewhere (h : HandsOver s t) (hreports : u.reports = t.reports := by rfl) : HandsOver s u :=
  h.trans (of_eq hreports)

/-- And one may come before. -/
theorem before (h : HandsOver t u) (hreports : t.reports = s.reports := by rfl) : HandsOver s u :=
  (of_eq hreports).trans h

theorem foldl {α : Type} {f : State → α → State} (hf : ∀ u a, HandsOver u (f u a)) (l : List α) (s : State) :
    HandsOver s (l.foldl f s) :=
  List.foldlRecOn (motive := HandsOver s) l f (refl s) fun u hu a _ => hu.trans (hf u a)

/-! ### Reports of heads -/

theorem fileReport (s : State) (r : Report) : HandsOver s (s.fileReport r) := ⟨[r], by rw [State.fileReport_eq]; rfl⟩

theorem reportFill (s : State) (h : HeadId) (v : Verdict) : HandsOver s (s.reportFill h v) := by
  unfold State.reportFill
  split
  · exact refl s
  · exact (fileReport s _).elsewhere (reports_countFault _ h v)

theorem reportSkipped (s : State) (h : HeadId) : HandsOver s (s.reportSkipped h) := by
  unfold State.reportSkipped
  dsimp only
  split
  · rw [State.reportUnfilled_eq]; exact fileReport s _
  · exact refl s

theorem reportHalted (s : State) (h : HeadId) : HandsOver s (s.reportHalted h) := by
  have halted : HandsOver s (State.reportHalted.halted h s) := by
    unfold State.reportHalted.halted
    split
    · exact refl s
    · exact reportFill s h _
  unfold State.reportHalted
  cases (s.head h).cycle with
  | pressurize | fillSoft | fillFast | fillTopUp | closing | snift => exact halted
  | skip => exact reportSkipped s h
  | _ => exact refl s

theorem reportDischarge (s : State) (h : HeadId) : HandsOver s (s.reportDischarge h) := by
  unfold State.reportDischarge
  split
  · exact reportFill s h _
  · exact reportSkipped s h

theorem haltHeads (s : State) : HandsOver s s.haltHeads :=
  (foldl reportHalted allHeads s).elsewhere (State.clearHeads_reports _)

theorem haltAll (s : State) : HandsOver s s.haltAll := by
  have halted := (haltHeads s.endCalibration).before (reports_endCalibration s)
  unfold State.haltAll
  generalize s.endCalibration.haltHeads = t at halted ⊢
  exact halted.elsewhere

theorem losePower (s : State) : HandsOver s s.losePower := by
  obtain ⟨outputs, -, e⟩ := s.losePower_eq
  rw [e]
  exact (haltAll _).before

/-! ### Leaving flight -/

theorem judgeDrain (s : State) : HandsOver s s.judgeDrain := by
  unfold State.judgeDrain
  split
  · exact ⟨_, congrArg State.reports s.endDraining_spec.2⟩
  · exact refl s

theorem leaveFlight (s : State) (h : HeadId) (c : CycleState) (tm : Option Timer) :
    HandsOver s (s.leaveFlight h c tm) := (judgeDrain _).before

theorem leaveToIdle (s : State) (h : HeadId) : HandsOver s (s.leaveToIdle h) :=
  (judgeDrain _).before (s.goIdle_reports h)

theorem abortFill (s : State) (h : HeadId) (v : Verdict) : HandsOver s (s.abortFill h v) := by
  unfold State.abortFill
  split
  · exact refl s
  · exact (reportFill s h v).trans (leaveFlight _ h _ _).before

theorem endFill (s : State) (h : HeadId) (v : Verdict) : HandsOver s (s.endFill h v) :=
  (reportFill s h v).trans (leaveToIdle _ h)

theorem finishSnift (s : State) (h : HeadId) : HandsOver s (s.finishSnift h) := by
  unfold State.finishSnift State.completeRun
  split
  · exact refl s
  · split
    · split
      · exact refl s
      · exact of_eq (reports_endRun s h _ _)
    · exact (reportFill s h _).trans (leaveFlight _ h _ _)

theorem finishSettle (s : State) (h : HeadId) : HandsOver s (s.finishSettle h) := by
  unfold State.finishSettle
  split
  · exact refl s
  · next c _ =>
    dsimp only
    have learned : (if s.mode = .calibration then s else (s.learn h c).updHead h fun x =>
        { x with fill := some (learnedContext (s.recipe c.slot) c) }).reports = s.reports := by
      split
      · rfl
      · exact reports_learn s h c
    split
    · exact (finishSnift _ h).before learned
    · exact of_eq learned

/-! ### Contacts and scans -/

theorem contactCame (s : State) (h : HeadId) : HandsOver s (s.contactCame h) := by
  unfold State.contactCame State.startRun
  split
  · split
    · split
      · exact refl s
      · exact of_eq (reports_enterPressurize s h)
    · exact refl s
  · cases (s.head h).cycle with
    | waitBottle =>
      dsimp only
      split
      · exact (leaveFlight _ h _ _).before
      · exact of_eq (reports_enterPressurize s h)
    | _ => exact of_eq rfl

theorem contactWent (s : State) (h : HeadId) : HandsOver s (s.contactWent h) := by
  have ended : ∀ {o u t}, HandsOver s t → HandsOver s (if s.mode = .calibration then s.endRun h o u else t) := by
    intro o u t ht
    split
    · exact of_eq (reports_endRun s h o u)
    · exact ht
  unfold State.contactWent State.burst
  cases (s.head h).cycle with
  | pressurize | fillSoft | fillFast | fillTopUp | closing => exact ended (abortFill s h _)
  | snift => exact ended (endFill s h _)
  | _ => exact refl s

/-- Before its aborts a scan leaves RQ; each abort files at most one record (R32, R157). -/
theorem scanBank (s : State) (b : BankId) : HandsOver s (s.scanBank b) := by
  have aborted : ∀ (u : State) (h : HeadId), HandsOver u (u.takeDecision .abortStuck h) := by
    intro u h
    unfold State.takeDecision State.stuckAbort
    dsimp only
    split
    · exact of_eq (reports_endRun u h _ _)
    · exact abortFill u h _
  rw [scanBank_eq]
  exact (foldl aborted _ _).before (by rw [beforeAborts_frame])

/-! ### The encoder -/

theorem discharge (s : State) (h : HeadId) : HandsOver s (s.discharge h) := by
  have discharged : HandsOver s (s.dischargeHead h) := by
    unfold State.dischargeHead
    split
    · exact (reportDischarge s h).elsewhere (State.goIdle_reports _ h)
    · exact refl s
  rw [State.discharge_eq]
  split
  · exact discharged.trans (judgeDrain _)
  · exact discharged

theorem takeArrival (s : State) (a : Arrival) : HandsOver s (s.takeArrival a) := by
  unfold State.takeArrival
  split
  · cases a.boundary with
    | infeed => exact of_eq (reports_infeed s _)
    | latestClose => exact of_eq (reports_latestClose s _)
    | discharge => exact discharge s _
  · exact refl s

theorem stepForward (s : State) : HandsOver s s.stepForward := by
  unfold State.stepForward State.cross
  dsimp only
  split
  · exact of_eq rfl
  · split
    · exact (foldl takeArrival _ _).before
    · exact of_eq rfl

theorem faultTracker (s : State) : HandsOver s s.faultTracker := by
  unfold State.faultTracker
  dsimp only
  generalize ht : State.raise { s with tracker := { s.tracker with status := .faulted } } .encoderFault = t
  have latched : t.reports = s.reports := by rw [← ht]; rfl
  have halted := (haltHeads t).before latched
  generalize t.haltHeads = u at halted ⊢
  cases t.mode with
  | production | draining => exact halted.elsewhere
  | standby | halted | cleaning | calibration => exact of_eq latched

theorem stepBackward (s : State) : HandsOver s s.stepBackward := by
  unfold State.stepBackward
  dsimp only
  split
  · exact (faultTracker _).before
  · exact of_eq rfl

theorem markIndex (s : State) : HandsOver s s.markIndex := by
  unfold State.markIndex State.checkIndex
  dsimp only
  split
  · exact (stepForward s).elsewhere
  · split
    · exact (stepForward s).elsewhere
    · split
      · exact (stepForward s).trans (faultTracker _).before
      · exact (stepForward s).elsewhere

end HandsOver

end Sys2Proof.Machine
end

section
/-! PROPERTY. The law of the report queue (R120 to R122, R125) through every step. -/

namespace Sys2Proof.Machine

/-! ### The law on the queue alone -/

/-- The law of the report queue asks nothing of the rest of the state. -/
def ReportQueue.lawful (q : ReportQueue) : Prop :=
  q.records.length ≤ 256 ∧ q.records.IsChain (fun a b => b.sequence = a.sequence + 1 + b.lostBefore) ∧
    ∀ r, q.records.getLast? = some r → q.sequence = r.sequence + 1 + q.lost

theorem queueLaw_iff (s : State) : QueueLaw s ↔ s.reports.lawful := Iff.rfl

theorem QueueLaw.of_eq {s t : State} (hs : QueueLaw s) (h : t.reports = s.reports) : QueueLaw t := by
  rw [queueLaw_iff, h]; exact hs

namespace ReportQueue.lawful
variable {q : ReportQueue}

/-- Of an empty queue the counters are free (R134). -/
theorem of_empty (h : q.records = []) : q.lawful := by
  unfold lawful
  rw [h]
  exact ⟨Nat.zero_le _, .nil, fun _ hr => nomatch hr⟩

/-- A record with room is numbered after the newest and the records lost since; one without room counts as lost (R120
to R122). -/
theorem filed (hq : q.lawful) (r : Report) :
    (q.filed { r with sequence := q.sequence, lostBefore := q.lost }).lawful := by
  obtain ⟨hlength, hchain, hnewest⟩ := hq
  unfold ReportQueue.filed ReportQueue.stored
  split
  · next hroom =>
    refine ⟨by rw [List.length_append]; exact hroom, ?_, fun x hx => ?_⟩
    · refine List.isChain_append.mpr ⟨hchain, .singleton _, fun x hx y hy => ?_⟩
      cases hy
      exact hnewest x hx
    · rw [List.getLast?_concat] at hx
      cases hx
      exact (BitVec.add_zero _).symm
  · refine ⟨hlength, hchain, fun x hx => ?_⟩
    show q.sequence + 1 = x.sequence + 1 + (q.lost + 1)
    rw [hnewest x hx, BitVec.add_assoc]

theorem filedAll (hq : q.lawful) (rs : List Report) : (q.filedAll rs).lawful := by
  induction rs generalizing q with
  | nil => exact hq
  | cons r rs ih => exact ih (hq.filed r)

/-- The oldest records may be removed (R129). -/
theorem drop (hq : q.lawful) (n : Nat) : { q with records := q.records.drop n }.lawful := by
  obtain ⟨hlength, hchain, hnewest⟩ := hq
  refine ⟨?_, hchain.drop n, fun r hr => hnewest r ?_⟩
  · have := List.length_drop (i := n) (l := q.records)
    show (q.records.drop n).length ≤ 256
    omega
  · rw [List.getLast?_drop] at hr
    split at hr
    · cases hr
    · exact hr

end ReportQueue.lawful

/-! ### Commands -/

theorem HandsOver.queueLaw {s t : State} (h : HandsOver s t) (hs : QueueLaw s) : QueueLaw t := by
  obtain ⟨rs, hrs⟩ := h
  rw [queueLaw_iff, hrs]
  exact ReportQueue.lawful.filedAll hs rs

/-- DISCARD REPORTS removes the oldest records, and STOP and HALT hand over records; no other request writes the
records or the counters. -/
theorem Served.keeps_queueLaw {s t : State} {i : Instr} (h : Served s i t) (hs : QueueLaw s) : QueueLaw t := by
  cases h with
  | discardReports n => exact ReportQueue.lawful.drop hs n
  | setReporting n hn => exact hs
  | drain hm => exact (HandsOver.judgeDrain _).before.queueLaw hs
  | halt broadcast => exact (HandsOver.haltAll s).queueLaw hs
  | bindRecipe mask target hk =>
    refine bindMask_keeps (fun u h hu => ?_) mask hs
    obtain ⟨a, p, e, -⟩ := bindHead_cases target u h
    rw [e]
    exact hu.of_eq (u.assignSlots_reports h a p)
  | stopCleaning hm => exact hs.of_eq (reports_releaseDriven s)
  | startCleaning openTime pauseTime cycles hm hp => exact hs.of_eq (reports_driveTo _ _)
  | endCalibration hm => exact hs.of_eq (reports_endCalibration s)
  | loadRecipe k r hb hr => rw [clearColumn_eq]; exact hs
  | unloadRecipe k hb => rw [clearColumn_eq]; exact hs
  | restoreCorrections k values hm hk => rw [State.dropReservationOn_eq]; exact hs
  | setValveProfile k p hm => exact hs.of_eq (State.deriveTerminalsWhere_reports _ _)
  | enableHeads mask hf => exact hs.of_eq (s.setEnable_reports mask _)
  | disableHeads mask => exact hs.of_eq (s.setEnable_reports mask _)
  | _ => exact hs.of_eq rfl

theorem Effect.keeps_queueLaw {fits : Prop} {s t : State} (he : Effect fits s t) (hs : QueueLaw s) : QueueLaw t := by
  have handed : ∀ {u}, HandsOver s u → QueueLaw u := fun h => h.queueLaw hs
  cases he with
  | request i hi => exact (answerRequest_served i s).keeps_queueLaw hs
  | powerOn pins => exact ReportQueue.lawful.of_empty rfl
  | restart => exact ReportQueue.lawful.of_empty rfl
  | halt => exact handed (.haltAll s)
  | powerLoss => exact handed (.losePower s)
  | forward => exact handed (.stepForward s)
  | backward => exact handed (.stepBackward s)
  | index => exact handed (.markIndex s)
  | quadrature => exact handed (.faultTracker s)
  | contactCame h => exact handed (.contactCame s h)
  | contactWent h => exact handed (.contactWent s h)
  | contactWindow h => exact handed (.leaveToIdle s h)
  | settle h => exact handed (.finishSettle s h)
  | sniftDwell h => exact handed (.finishSnift s h)
  | scan b => exact handed (.scanBank s b)
  | openPhase plan => exact hs.of_eq (reports_endOpenPhase s plan)
  | pausePhase plan => exact hs.of_eq (reports_endCycle s plan)
  | powerReturn => exact hs.of_eq (reports_regainPower s)
  | lineHeld => exact hs.of_eq s.dropTerminals_reports
  | none | pressurizeDwell | ventDwell | tick | pulse | ready => exact hs

/-- Settles O51: the events hand over records and DISCARD REPORTS removes the oldest, which both keep the law; the
resets empty the queue. -/
theorem stepKeepsTheQueueLaw : Obligations.StepKeepsTheQueueLaw := fun _ _ =>
  step_keeps (fun _ _ => id) fun hs he =>
    exec_keeps_of_effect (fun hc hu => by rw [hc]; exact hu) Effect.keeps_queueLaw hs he

end Sys2Proof.Machine
end

section
/-! PROPERTY. The requests on the report queue: PEEK REPORTS (R128, R181), DISCARD REPORTS (R129) and SET REPORTING
(R126, R127). -/

namespace Sys2Proof.Machine

/-! ### The report record -/

theorem length_reportBytes (r : Report) : r.bytes.length = 22 := by simp [Report.bytes, leSigned16, length_leBytes]

/-- Each field of the report record is the one its offset begins with (R181), whatever follows the record. -/
theorem reportBytes_fields (r : Report) (rest : List Byte) :
    let p := r.bytes ++ rest
    fieldAt p 0 4 = r.sequence.toNat % 256 ^ 4 ∧ fieldAt p 4 1 = r.head.val % 256 ^ 1 ∧
      fieldAt p 5 1 = slotCode r.slot % 256 ^ 1 ∧ fieldAt p 6 1 = r.verdict.code % 256 ^ 1 ∧
      fieldAt p 7 1 = r.flags.code % 256 ^ 1 ∧ fieldAt p 8 3 = r.finalVolume % 256 ^ 3 ∧
      fieldAt p 11 3 = r.target % 256 ^ 3 ∧ fieldAt p 14 2 = (r.correction % 65536).toNat % 256 ^ 2 ∧
      fieldAt p 16 2 = r.duration % 256 ^ 2 ∧ fieldAt p 18 4 = r.lostBefore.toNat % 256 ^ 4 := by
  simp only [Report.bytes, leSigned16, List.append_assoc, fieldAt_skip, fieldAt_leBytes, Nat.reduceLeDiff,
    Nat.reduceSub, and_self]

/-- The payload from record `j` on, with the record itself at its head. -/
theorem drop_flatMap_reportBytes (l : List Report) {j : Nat} {r : Report} (hj : l[j]? = some r) :
    ∃ rest, (l.flatMap Report.bytes).drop (22 * j) = r.bytes ++ rest := by
  induction l generalizing j with
  | nil => cases hj
  | cons x l ih =>
    cases j with
    | zero => cases hj; exact ⟨_, rfl⟩
    | succ j =>
      obtain ⟨rest, e⟩ := ih hj
      refine ⟨rest, ?_⟩
      rw [List.flatMap_cons, List.drop_append, length_reportBytes,
        List.drop_eq_nil_of_le (by rw [length_reportBytes]; omega), List.nil_append, ← e]
      congr 1

theorem length_flatMap_reportBytes (l : List Report) : (l.flatMap Report.bytes).length = 22 * l.length := by
  rw [List.length_flatMap, List.map_congr_left fun r _ => length_reportBytes r]
  simp [Nat.mul_comm]

/-- Every verdict code fits its byte (R118, R181). -/
theorem verdictCode_field (v : Verdict) : v.code % 256 ^ 1 = v.code := by cases v <;> rfl

/-! ### PEEK REPORTS -/

/-- The payload of PEEK REPORTS: the number of records, and the records (R181). -/
def recordsPayload (l : List Report) : List Byte := leBytes 1 l.length ++ l.flatMap Report.bytes

theorem length_recordsPayload (l : List Report) : (recordsPayload l).length = 1 + 22 * l.length := by
  rw [recordsPayload, List.length_append, length_leBytes, length_flatMap_reportBytes]

/-- A field of a record stands in the payload behind the number and the records before it. -/
theorem fieldAt_recordsPayload {l : List Report} {j : Nat} {r : Report} (hj : l[j]? = some r) : ∃ rest, ∀ o size,
    fieldAt (recordsPayload l) (1 + o + 22 * j) size = fieldAt (r.bytes ++ rest) o size := by
  obtain ⟨rest, e⟩ := drop_flatMap_reportBytes l hj
  refine ⟨rest, fun o size => ?_⟩
  rw [recordsPayload, fieldAt_skip (by omega), ← e]
  unfold fieldAt
  rw [List.drop_drop]
  congr 3
  omega

theorem peekReports_badField {n : Nat} (hn : n = 0 ∨ 16 < n) (s : State) : peekReports n s = refuse .badField s := by
  unfold peekReports between
  rw [if_neg]
  simp only [Bool.and_eq_true, decide_eq_true_eq]
  omega

theorem peekReports_answers {n : Nat} (h1 : 1 ≤ n) (h16 : n ≤ 16) (s : State) :
    peekReports n s = accept (recordsPayload (s.reports.records.take n)) s := by
  unfold peekReports between
  rw [if_pos (by simp [h1, h16])]
  rfl

/-- Settles O38: the records stand in the payload one behind the other, each field at its offset. -/
theorem peekReportsAnswersTheOldest : Obligations.PeekReportsAnswersTheOldest := by
  intro n s hs
  have hpeek : exec (.peekReports n) s = .next (transact 0x1B (peekReports n) s) := rfl
  rw [hpeek]
  refine ⟨fun hn => ?_, fun h1 h16 => ?_⟩
  · rw [transact_refused hs (peekReports_badField hn s)]
  · refine ⟨_, congrArg _ (transact_accepted hs (peekReports_answers h1 h16 s)), ?_⟩
    have hcount : (s.reports.records.take n).length = min n s.reports.records.length := List.length_take
    refine ⟨?_, by rw [length_recordsPayload, hcount], fun j r hj hr => ?_⟩
    · rw [recordsPayload, fieldAt_leBytes, hcount]
      exact Nat.mod_eq_of_lt (by omega)
    · have htaken : (s.reports.records.take n)[j]? = some r := by rw [List.getElem?_take_of_lt (by omega), hr]
      obtain ⟨rest, hfield⟩ := fieldAt_recordsPayload htaken
      obtain ⟨esequence, ehead, eslot, everdict, eflags, evolume, etarget, ecorrection, eduration, elost⟩ :=
        reportBytes_fields r rest
      rw [(hfield 7 1).trans eflags]
      obtain ⟨blate, boverrange, blearned, boutlier, bchangeover⟩ := flags_testBit r.flags
      have hhead := r.head.isLt
      exact ⟨(hfield 0 4).trans (esequence.trans (Nat.mod_eq_of_lt r.sequence.isLt)),
        (hfield 4 1).trans (ehead.trans (Nat.mod_eq_of_lt (by omega))),
        (hfield 5 1).trans (eslot.trans (slotCode_eq _)),
        (hfield 6 1).trans (everdict.trans (verdictCode_field _)),
        blate, boverrange, blearned, boutlier, bchangeover,
        fun h => (hfield 8 3).trans (evolume.trans (Nat.mod_eq_of_lt (by omega))),
        fun h => (hfield 11 3).trans (etarget.trans (Nat.mod_eq_of_lt (by omega))),
        fun hlow hhigh => (congrArg signed16 ((hfield 14 2).trans ecorrection)).trans
          (signed16_field (by omega) (by omega)),
        fun h => (hfield 16 2).trans (eduration.trans (Nat.mod_eq_of_lt (by omega))),
        (hfield 18 4).trans (elost.trans (Nat.mod_eq_of_lt r.lostBefore.isLt))⟩

/-! ### DISCARD REPORTS and SET REPORTING -/

theorem maskBit_eq (b : Bool) (k : Nat) : maskBit b k = 2 ^ k * b.toNat := by cases b <;> simp [maskBit]

/-- Bit 3 of the condition word is NEAR_FULL (R126, R177): the bits below it add to less than 8, and what stands above
it is a multiple of 16. -/
theorem conditionWord_testBit_three (s : State) : (s.conditionWord % 256 ^ 2).testBit 3 = s.nearFull := by
  have hreferenced := s.referenced.toNat_le
  have hpower := s.valvePower.toNat_le
  have hready := s.productReady.toNat_le
  have hbit : s.conditionWord % 256 ^ 2 / 2 ^ 3 % 2 = s.nearFull.toNat := by
    have hfull := s.nearFull.toNat_le
    simp only [State.conditionWord, maskBit_eq]
    omega
  rw [Nat.testBit_eq_decide_div_mod_eq, hbit]
  cases s.nearFull <;> rfl

/-- The status summary shows NEAR_FULL in bit 3 of its condition word (R177). -/
theorem summary_nearFull (s : State) : (fieldAt s.summary 1 2).testBit 3 = s.nearFull := by
  unfold State.summary
  rw [List.append_assoc, fieldAt_skip (Nat.le_refl 1), fieldAt_leBytes]
  exact conditionWord_testBit_three s

theorem thresholdAllowed_iff (n : Nat) : thresholdAllowed n = true ↔ n ∈ [192, 208, 224, 240] := by
  simp [thresholdAllowed, or_assoc]

/-- Settles O39: each request refused, and accepted with what it writes. -/
theorem discardAndSetReporting : Obligations.DiscardAndSetReporting := by
  refine ⟨fun n s hs => ?_, fun n s hs => ?_⟩
  · have hdiscard : exec (.discardReports n) s = .next (transact 0x1C (discardReports n) s) := rfl
    rw [hdiscard]
    refine ⟨fun hn => congrArg _ (transact_refused hs ?_), fun hn => congrArg _ (transact_accepted hs ?_)⟩
    · exact if_neg (by omega)
    · exact if_pos hn
  · have hset : exec (.setReporting n) s = .next (transact 0x1D (setReporting n) s) := rfl
    rw [hset]
    refine ⟨fun hn => congrArg _ (transact_refused hs ?_), fun hn => ⟨congrArg _ (transact_accepted hs ?_), ?_⟩⟩
    · exact if_neg ((thresholdAllowed_iff n).not.mpr hn)
    · exact if_pos ((thresholdAllowed_iff n).mpr hn)
    · exact summary_nearFull _

end Sys2Proof.Machine
end

section
/-! PROPERTY. The resets: RESTART at its reply, power-on and the reset line, with the rows that find the line held
(R16, R45, R69, R83, R102, R115, R116, R134, R149, R150, R161, R169, R171, R172, R174, R176). -/

namespace Sys2Proof.Machine

/-! ### Rows that are not taken -/

/-- The broadcast HALT is an event of every node that does not transmit (R172, R174). -/
theorem exec_broadcastHalt (s : State) : exec (.halt true) s =
    .next (event (fun t => if t.link.rx = .transmitting then t else t.haltAll.toHunt) s) := by
  show execHalt true s = _
  unfold execHalt
  rw [if_pos rfl]

/-- While the reset line is held a row that is no level at a pin leaves all state (R150, Log 7). -/
theorem exec_of_held {i : Instr} (hi : actsHeld i = false) {s : State} (hs : s.running = false) :
    exec i s = .next s := by
  have held : ∀ body : State → State, (.next (event body s) : Host.Outcome State Fault Refusal) = .next s :=
    fun body => congrArg _ (event_of_held hs body)
  by_cases hr : isRequest i = true
  · obtain ⟨code, he⟩ := exec_of_isRequest hr s
    rw [he, transact_of_held hs]
  · cases i with
    | halt broadcast =>
      cases broadcast with
      | false => exact absurd rfl hr
      | true => rw [exec_broadcastHalt]; exact held _
    | byteArrival | gapTimerExpiry | replySent | encoderForwardStep | encoderBackwardStep | indexMarkStep
    | quadratureError | contactWindowExpiry | pressurizeDwellExpiry | settleExpiry | sniftDwellExpiry | ventDwellExpiry
    | millisecondTick | flowmeterPulse | bankScan | openPhaseExpiry | pausePhaseExpiry => exact held _
    | contactArrival | contactLoss | valvePowerLoss | valvePowerReturn | productReadyChange | powerOn | resetLineAssert
    | resetLineRelease => cases hi
    | _ => exact absurd rfl hr

/-- A node without an address takes no addressed request (R171, R174). -/
theorem transact_of_noAddress {s : State} (hs : s.running = true) (hrx : s.link.rx ≠ .transmitting)
    (hnode : s.link.node = 0) (code : Nat) (body : State → State × Answer) : transact code body s = s.hunting := by
  have hline : ¬ s.pins.resetHeld = true := by simpa [State.running] using hs
  unfold transact
  rw [if_neg hline, if_neg hrx, if_pos hnode]
  rfl

/-- Settles O3: a request row is a transaction, which each of the three turns away. -/
theorem requestsTurnedAway : Obligations.RequestsTurnedAway := by
  intro i s hi
  obtain ⟨code, he⟩ := exec_of_isRequest hi s
  rw [he]
  exact ⟨fun hs => congrArg _ (transact_of_held hs _ _), fun _ hrx => congrArg _ (transact_of_transmitting hrx _ _),
    fun hs hrx hnode => congrArg _ (transact_of_noAddress hs hrx hnode _ _)⟩

/-! ### RESTART -/

theorem exec_replySent {s : State} (hs : s.running = true) (hrx : s.link.rx = .transmitting) :
    exec .replySent s = .next (if s.link.restartPending then s.restart
      else { s.hunting with link := { s.hunting.link with tx := none } }) :=
  congrArg _ ((event_of_running hs _).trans (if_pos hrx))

theorem lane_restart (s : State) (h : HeadId) : s.restart.lane h = ⟨(s.lane h).counter, (s.lane h).counter⟩ :=
  vector_ofFn_get _ _

theorem slot_restart (s : State) (k : SlotId) : s.restart.slot k =
    ⟨(s.slot k).recipe, allHeads.countP fun h => decide ((s.head h).active = some k)⟩ :=
  vector_ofFn_get _ _

/-- Settles O10: the reply starts from the state with the reset waiting; the reset is that of every block. -/
theorem restartTakesEffectAtItsReply : Obligations.RestartTakesEffectAtItsReply := by
  refine ⟨fun s hs => ?_, fun s hs hrx hpending => ?_, fun s hs hrx hpending => ?_⟩
  · have hexec : exec .restart s = .next (transact 0x1F restartRequest s) := rfl
    rw [hexec]
    exact congrArg _ (transact_accepted hs rfl)
  · rw [exec_replySent hs hrx, hpending]
    rfl
  · have hexec : exec .replySent s = .next s.restart := by rw [exec_replySent hs hrx, hpending]; rfl
    have hslot : ∀ k, (s.restart.slot k).recipe = (s.slot k).recipe ∧ (s.restart.slot k).bindings =
        allHeads.countP fun h => decide ((s.head h).active = some k) := fun k => by
      rw [slot_restart]
      exact ⟨rfl, rfl⟩
    have houtput : ∀ h, s.restart.output h =
        ⟨Outputs.allOff, false, terminalsOf s.drive s.profiles[(s.head h).profile] Outputs.allOff⟩ := fun h => by
      rw [output_restart, derived_eq]
      rfl
    exact ⟨s.restart, hexec, rfl, head_restart s, rfl, rfl, lane_restart s, rfl, rfl, hslot, rfl, rfl, houtput,
      rfl, rfl, rfl, rfl, rfl, rfl, rfl, rfl, rfl, rfl⟩

/-! ### Power-on and the reset line -/

/-- Power-on leaves in every block the values of its chapter (R150 and the rules it gathers). -/
theorem powerOnWith_values (pins : Pins) (s : State) : PowerOnValues pins (s.powerOnWith pins) := by
  have hlane : ∀ h, (s.powerOnWith pins).lane h = ⟨0, 0⟩ := fun h => by
    show (Vector.replicate 64 (⟨0, 0⟩ : Lane))[h] = _; simp
  have hentry : ∀ h k, (s.powerOnWith pins).correction h k = 0 := fun h k => by
    show ((Vector.replicate 8 (Vector.replicate 64 (0 : Int)))[k])[h] = 0; simp
  have hslot : ∀ k, (s.powerOnWith pins).slot k = ⟨none, 0⟩ := fun k => by
    show (Vector.replicate 8 (⟨none, 0⟩ : Slot))[k] = _; simp
  have hprofile : ∀ p : ProfileId, (s.powerOnWith pins).profiles[p] = ValveProfile.powerOn := fun p => by
    show (Vector.replicate 8 ValveProfile.powerOn)[p] = _; simp
  have hout : ∀ h, (s.powerOnWith pins).output h = ⟨Outputs.allOff, false, Outputs.allOff⟩ := fun h => by
    show (Vector.replicate 64 (⟨Outputs.allOff, false, Outputs.allOff⟩ : HeadOutputs))[h] = _; simp
  exact ⟨rfl, head_powerOnWith pins s, rfl, rfl, hlane, hentry, rfl, hslot, rfl, hprofile, hout, rfl, rfl, rfl, rfl,
    rfl, rfl, rfl, rfl, rfl, rfl⟩

/-- The assertion of the reset line drops every terminal and leaves the rest (R150, Log 7). -/
theorem exec_resetLineAssert (s : State) : exec .resetLineAssert s = .next { s with
    pins := { s.pins with resetHeld := true }
    outputs := Vector.ofFn fun h : HeadId => { s.output h with terminals := Outputs.allOff } } := by
  show execResetLineAssert s = _
  unfold execResetLineAssert State.dropTerminals
  rfl

/-- Settles O45: power-on and the release are one reset, the assertion drops the terminals, and a held line stops every
row that is no level at a pin. -/
theorem powerOnAndResetLine : Obligations.PowerOnAndResetLine := by
  refine ⟨fun pins s => ⟨_, rfl, powerOnWith_values _ s, rfl⟩, fun switches s hs => ?_, exec_resetLineAssert,
    fun i s hs hi => exec_of_held hi hs⟩
  have hline : s.pins.resetHeld = true := by simpa [State.running] using hs
  exact ⟨_, congrArg Host.Outcome.next (if_pos hline), powerOnWith_values _ s, rfl⟩

/-- Power-on from power-on leaves the same: the queue is empty and the free order at its start. -/
theorem powerOn_eq_powerOnWith (pins : Pins) : State.powerOn pins = (State.powerOn pins).powerOnWith pins := rfl

/-- Settles O60: each law by the reset of its own proof. -/
theorem invariantsHoldAfterPowerOn : Obligations.InvariantsHoldAfterPowerOn := by
  intro pins s
  have hs : s = s.powerOnWith pins := powerOn_eq_powerOnWith pins
  have hbooks : BooksLaw s := hs ▸ powerOnWith_booksLaw pins s
  have hheads : HeadsLaw s := hs ▸ powerOnWith_headsLaw pins s
  have hcounts : CountsLaw s := hs ▸ powerOnWith_countsLaw pins s
  have hfactors : MeterFactorLaw s := (meterFactorLaw_iff s).mpr ⟨fun h => by
    rw [hs, head_powerOnWith]
    exact ⟨.inl rfl, fun he => absurd rfl he⟩, fun c hc => absurd hc List.not_mem_nil⟩
  exact ⟨ReportQueue.lawful.of_empty rfl, hbooks.table, hfactors, hs ▸ powerOnWith_serviceAndPowerLaw pins s,
    hs ▸ powerOnWith_trackerLaw pins s, hs ▸ powerOnWith_storedSettingsLaw pins s, hs ▸ powerOnWith_valveLaw pins s,
    hcounts, hheads, fillsLaw_iff.mpr ⟨hheads, hcounts, hbooks⟩, rfl⟩

end Sys2Proof.Machine
end

section
/-! PROPERTY. The mode requests and the alarms: START PRODUCTION, STOP, HALT, CLEAR HALT and ACKNOWLEDGE ALARMS
(R136 to R139, R141, R142, R146, R147, R160, R167, R174). -/

namespace Sys2Proof.Machine

variable {s : State}

/-! ### START PRODUCTION and CLEAR HALT -/

/-- The refusals of START PRODUCTION in the order of R136, in the terms of the rules. -/
theorem startRefusal_eq (s : State) [Decidable (∃ h, (s.head h).enable = .enabled)]
    [Decidable (∀ h, (s.head h).enable = .enabled → (s.head h).active ≠ none)] : startRefusal s =
      if s.tracker.geometry.headCount = 0 then some .geometryUnset
      else if s.tracker.status ≠ .referenced then some .notReferenced
      else if ¬ ∃ h, (s.head h).enable = .enabled then some .nothingEnabled
      else if ¬ ∀ h, (s.head h).enable = .enabled → (s.head h).active ≠ none then some .recipeMissing
      else none := by
  have hnothing : (allHeads.any fun h => decide ((s.head h).enable = .enabled)) = false ↔
      ¬ ∃ h, (s.head h).enable = .enabled := by simp
  have hmissing : (allHeads.any fun h => decide ((s.head h).enable = .enabled) && (s.head h).active.isNone) = true ↔
      ¬ ∀ h, (s.head h).enable = .enabled → (s.head h).active ≠ none := by simp
  unfold startRefusal
  simp only [hnothing, hmissing]

theorem startProduction_of_refusal {st : Status} (hm : s.mode = .standby ∨ s.mode = .draining)
    (h : startRefusal s = some st) : startProduction s = refuse st s := by
  unfold startProduction
  rw [if_pos hm, h]

/-- Settles O40: the refusals in the order of R136 and R141, and what each request writes. -/
theorem startProductionAndClearHalt : Obligations.StartProductionAndClearHalt := by
  classical
  refine ⟨fun s hs => ?_, fun s hs => ?_⟩
  · intro op refused may set sure some_ all
    have refusedBy : ∀ st, startProduction s = refuse st s → refused st := fun st h =>
      congrArg _ (transact_refused hs h)
    have hrefusal := startRefusal_eq s
    refine ⟨fun hm => refusedBy _ (if_neg hm), fun hm hn => refusedBy _ (startProduction_of_refusal hm ?_),
      fun hm hn hr => refusedBy _ (startProduction_of_refusal hm ?_),
      fun hm hn hr he => refusedBy _ (startProduction_of_refusal hm ?_),
      fun hm hn hr he ha => refusedBy _ (startProduction_of_refusal hm ?_),
      fun hm hn hr he ha => congrArg _ (transact_accepted hs ?_)⟩
    · rw [hrefusal, if_pos (not_not.mp hn)]
    · rw [hrefusal, if_neg hn, if_pos hr]
    · rw [hrefusal, if_neg hn, if_neg (not_not.mpr hr), if_pos he]
    · rw [hrefusal, if_neg hn, if_neg (not_not.mpr hr), if_neg (not_not.mpr he), if_pos ha]
    · unfold startProduction
      rw [if_pos hm, hrefusal, if_neg hn, if_neg (not_not.mpr hr), if_neg (not_not.mpr he), if_neg (not_not.mpr ha)]
  · refine ⟨fun hm => congrArg _ (transact_refused hs (if_neg hm)), fun hm hv => congrArg _ (transact_refused hs ?_),
      fun hm hv => congrArg _ (transact_accepted hs ?_)⟩
    · exact (if_pos hm).trans (if_neg (by rw [hv]; decide))
    · exact (if_pos hm).trans (if_pos hv)

/-! ### STOP -/

/-- Settles O41: the entry to DRAINING with or without a head in flight, the early end of a cleaning run, and the modes
that keep their state. -/
theorem stopByMode : Obligations.StopByMode := by
  intro s hs
  have stops : ∀ {t}, stopRequest s = accept [] t → exec .stop s = .next (t.answered 0x13 .ok []) :=
    fun h => congrArg _ (transact_accepted hs h)
  refine ⟨fun hm hn => stops (t := s.setMode .draining) ?_,
    fun hm hn => ⟨(s.setMode .draining).judgeDrain, stops ?_, ?_⟩,
    fun hm => ⟨s.endCleaningEarly.setMode s.afterService, stops ?_, ?_⟩,
    fun hm => stops ?_, fun hm => congrArg _ (transact_refused hs ?_)⟩
  · have hstay : (s.setMode .draining).judgeDrain = s.setMode .draining := State.judgeDrain_of_ne (.inr hn)
    unfold stopRequest
    rw [hm]
    exact congrArg (accept []) hstay
  · unfold stopRequest; rw [hm]
  · rw [State.judgeDrain_ends (s := s.setMode .draining) rfl hn]
    exact State.endDraining_spec _
  · unfold stopRequest; rw [hm]
  · obtain ⟨hframe, hheads⟩ := s.releaseDriven_spec
    refine ⟨?_, hheads⟩
    show { s.releaseDriven with cleaning := s.cleaning.over .incomplete, mode := s.afterService } = { s with
      heads := s.releaseDriven.heads
      outputs := s.releaseDriven.outputs
      inFlight := s.releaseDriven.inFlight
      mode := s.afterService
      cleaning := s.cleaning.over .incomplete }
    generalize s.releaseDriven = u at hframe ⊢
    rw [hframe]
  · unfold stopRequest; rw [hm]
  · unfold stopRequest
    rcases hm with hm | hm | hm <;> rw [hm]

/-! ### HALT -/

theorem exec_addressedHalt (s : State) : exec (.halt false) s = .next (transact 0x14 haltRequest s) := by
  show execHalt false s = _
  unfold execHalt
  rw [if_neg Bool.false_ne_true]

/-- Settles O43: both forms are the halt of R139, the addressed one with its reply. -/
theorem haltReportsInHeadOrder : Obligations.HaltReportsInHeadOrder := by
  intro s hcal hheads
  have hhalted := State.haltAll_spec hcal hheads
  refine ⟨fun hs => ⟨s.haltAll, ?_, hhalted⟩,
    fun hs hrx => ⟨s.haltAll, ?_, hhalted⟩⟩
  · rw [exec_addressedHalt]
    exact congrArg _ (transact_accepted hs rfl)
  · rw [exec_broadcastHalt, event_of_running hs, if_neg hrx]
    rfl

/-! ### ACKNOWLEDGE ALARMS -/

/-- A byte is 32 or more exactly with bit 5, 6 or 7 set. -/
theorem byte_ge_32_iff (mask : Byte) : 32 ≤ mask.toNat ↔
    mask.getLsbD 5 = true ∨ mask.getLsbD 6 = true ∨ mask.getLsbD 7 = true := by
  constructor
  · intro hge
    obtain ⟨i, hi, hbit⟩ := Nat.exists_ge_and_testBit_of_ge_two_pow (n := 5) hge
    have hlt : i < 8 := by
      by_contra hno
      exact absurd (Nat.ge_two_pow_of_testBit hbit) (not_le.mpr
        (mask.isLt.trans_le (Nat.pow_le_pow_right (by decide) (not_lt.mp hno))))
    have : i = 5 ∨ i = 6 ∨ i = 7 := by omega
    rcases this with rfl | rfl | rfl
    · exact .inl hbit
    · exact .inr (.inl hbit)
    · exact .inr (.inr hbit)
  · rintro (h | h | h) <;> have := Nat.ge_two_pow_of_testBit h <;> omega

theorem staysLatched_iff (s : State) (mask : Byte) (x : Alarm) : staysLatched s mask x = true ↔
    s.alarms.has x = true ∧ (mask.getLsbD x.bit = false ∨ causeGone s x = false) := by
  simp only [staysLatched, Bool.and_eq_true, Bool.not_eq_true', Bool.and_eq_false_iff]

theorem causeGone_headLockout (s : State) : causeGone s .headLockout = false ↔ ∃ h, (s.head h).enable = .lockedOut := by
  simp [causeGone]

/-- Settles O44: the masks refused, then each alarm by its cause. -/
theorem acknowledgeClearsWhatIsCured : Obligations.AcknowledgeClearsWhatIsCured := by
  intro mask s hs bad locked
  have hbad : 32 ≤ mask.toNat ↔ bad := byte_ge_32_iff mask
  refine ⟨fun h => congrArg _ (transact_refused hs (if_pos (hbad.mpr h))), fun h => ⟨acknowledged s mask,
    congrArg _ (transact_accepted hs (if_neg (hbad.not.mpr h))), ?_, ?_, ?_, ?_, ?_⟩⟩
  · refine (staysLatched_iff s mask .indexSlip).trans (and_congr_right' ?_)
    exact or_iff_left (by simp [causeGone])
  · refine (staysLatched_iff s mask .encoderFault).trans (and_congr_right' (or_congr_right ?_))
    simp [causeGone]
  · exact staysLatched_iff s mask .valvePowerLost
  · refine (staysLatched_iff s mask .reportOverflow).trans (and_congr_right' ?_)
    exact or_iff_left (by simp [causeGone])
  · exact (staysLatched_iff s mask .headLockout).trans (and_congr_right' (or_congr_right (causeGone_headLockout s)))

end Sys2Proof.Machine
end

section
/-! PROPERTY. The end of DRAINING by the last head out of flight (R43, R124, R138): after its contact window, a contact
arrival without a slot, a contact loss, its snift dwell or settle time, a stuck meter, or its discharge. -/

namespace Sys2Proof.Machine

variable {s t u v : State} {h : HeadId} {c : FillContext}

/-! ### States that drain alike -/

/-- The end of DRAINING makes the same of `v` as of `u`: they differ in what going to rest removes from a head, and each
head has the same skipped bottle to report. -/
structure DrainsAs (u v : State) : Prop where
  frame : v = { u with heads := v.heads, outputs := v.outputs, inFlight := v.inFlight }
  rest : ∀ g, (v.head g).atRest = (u.head g).atRest
  content : ∀ g, drainContent v g = drainContent u g

namespace DrainsAs

theorem drainedFrom (hv : DrainsAs u v) (ht : DrainedFrom v t) : DrainedFrom u t := by
  obtain ⟨⟨hheads, houtputs, hflight⟩, hframe⟩ := ht
  have hdrive : v.drive = u.drive := by rw [hv.frame]
  have hprofiles : v.profiles = u.profiles := by rw [hv.frame]
  have hcontent : drainContent v = drainContent u := funext hv.content
  refine ⟨⟨fun g => (hheads g).trans (hv.rest g), fun g => ?_, hflight⟩, ?_⟩
  · have hprofile : (v.head g).profile = (u.head g).profile := by
      have hrest := congrArg Head.profile (hv.rest g)
      exact hrest
    rw [houtputs g]
    simp only [hdrive, hprofiles, hprofile]
  · rw [hcontent] at hframe
    refine hframe.trans ?_
    generalize allHeads.filterMap (drainContent u) = filed
    rw [hv.frame]
    rfl

/-- With nothing in flight MC ends DRAINING (R138). -/
theorem judged (hv : DrainsAs u v) (hm : u.mode = .draining) (hn : v.inFlight = 0) : DrainedFrom u v.judgeDrain := by
  have hmode : v.mode = .draining := by rw [hv.frame]; exact hm
  rw [State.judgeDrain_ends hmode hn]
  exact hv.drainedFrom v.endDraining_spec

/-- A change at one head that is no skipped bottle before or after. -/
theorem of_only (ho : OnlyHead h u v { u with inFlight := v.inFlight })
    (hrest : (v.head h).atRest = (u.head h).atRest) (hu : (u.head h).cycle ≠ .skip) (hv : (v.head h).cycle ≠ .skip) :
    DrainsAs u v where
  frame := ho.2
  rest g := by
    by_cases e : g = h
    · rw [e, hrest]
    · rw [ho.head_ne e]
  content g := by
    by_cases e : g = h
    · rw [e]
      unfold drainContent
      rw [if_neg fun hc => hv hc.1, if_neg fun hc => hu hc.1]
    · exact drainContent_congr _ _ _ (ho.head_ne e)

theorem enter (hc : (s.head h).cycle ≠ .skip) {cycle : CycleState} (hn : cycle ≠ .skip) (tm : Option Timer) :
    DrainsAs s (s.enter h cycle tm) := by
  have hself : (s.enter h cycle tm).head h = { s.head h with cycle := cycle, timer := tm } :=
    (State.head_enter ..).trans (if_pos rfl)
  refine of_only (OnlyHead.enter h cycle tm s) ?_ hc ?_
  · rw [hself]; rfl
  · rw [hself]; exact hn

theorem goIdle (hc : (s.head h).cycle ≠ .skip) : DrainsAs s (s.goIdle h) := by
  have hself : (s.goIdle h).head h = (s.head h).cleared := (State.head_goIdle ..).trans (if_pos rfl)
  have honly := OnlyHead.goIdle h s
  have hflight : (s.goIdle h).inFlight = s.inFlight - one (s.head h).cycle.inFlight := by rw [honly.2]
  refine of_only (hflight ▸ honly) ?_ hc ?_
  · rw [hself]; rfl
  · rw [hself]; exact fun e => nomatch e

theorem putOutput (s : State) (h : HeadId) (x : HeadOutputs) : DrainsAs s (s.putOutput h x) :=
  ⟨rfl, fun _ => rfl, fun _ => rfl⟩

end DrainsAs

/-! ### The last head in flight -/

/-- Head `h` is in flight in DRAINING and MC counts no other. -/
structure LastOut (s : State) (h : HeadId) : Prop where
  draining : s.mode = .draining
  last : s.inFlight = 1
  flies : (s.head h).cycle.inFlight = true

namespace LastOut

theorem not_skip (hs : LastOut s h) : (s.head h).cycle ≠ .skip := fun hc => by
  have := hs.flies
  rw [hc] at this
  cases this

theorem leaveFlight (hs : LastOut s h) {cycle : CycleState} (hc : cycle = .aborted ∨ cycle = .done)
    (tm : Option Timer) : DrainedFrom s (s.leaveFlight h cycle tm) := by
  refine (DrainsAs.enter hs.not_skip ?_ tm).judged hs.draining ?_
  · rcases hc with rfl | rfl <;> decide
  · rw [State.enter_inFlight, hs.last, hs.flies]
    rcases hc with rfl | rfl <;> rfl

theorem leaveToIdle (hs : LastOut s h) : DrainedFrom s (s.leaveToIdle h) := by
  refine (DrainsAs.goIdle hs.not_skip).judged hs.draining ?_
  rw [(OnlyHead.goIdle h s).2, hs.flies]
  show s.inFlight - 1 = 0
  rw [hs.last]

/-- A slotless head's skipped bottle is reported at once with the others (R25, R43). -/
theorem skip (hs : LastOut s h) : DrainedFrom
    { s with heads := s.heads.set h { s.head h with cycle := .skip, contactSeen := true, timer := none } }
    ((s.updHead h fun x => { x with contactSeen := true }).leaveFlight h .skip none) := by
  have hself : (s.updHead h fun x => { x with contactSeen := true }).head h = { s.head h with contactSeen := true } :=
    (State.head_updHead ..).trans (if_pos rfl)
  have hheads : ((s.updHead h fun x => { x with contactSeen := true }).enter h .skip none).heads =
      s.heads.set h { s.head h with cycle := .skip, contactSeen := true, timer := none } := by
    rw [State.enter_heads, hself, State.updHead_heads, Vector.set_set]
  have hhead := fun g : HeadId => congrArg (fun heads : Vector Head 64 => heads[g]) hheads
  refine DrainsAs.judged ⟨rfl, fun g => congrArg Head.atRest (hhead g), fun g => drainContent_congr _ _ g (hhead g)⟩
    hs.draining ?_
  rw [State.enter_inFlight, hself, hs.flies]
  show s.inFlight + 0 - 1 = 0
  rw [hs.last]

theorem putOutput (hs : LastOut s h) (x : HeadOutputs) : LastOut (s.putOutput h x) h :=
  ⟨hs.draining, hs.last, hs.flies⟩

end LastOut

/-! ### Its fill ends with a report -/

/-- The report of a fill handed over, and its verdict counted at its head (R40, R41). -/
def State.counted (h : HeadId) (c : FillContext) (v : Verdict) (s : State) : State :=
  { s with
    reports := s.reports.filed (storedFill s.reports h c v)
    heads := s.heads.set h (countedHead s.tracker.geometry.lockoutThreshold v { s.head h with fill := none })
    alarms := { s.alarmsFiled 1 with
      headLockout := s.alarms.headLockout ||
        locksOut s.tracker.geometry.lockoutThreshold v { s.head h with fill := none } } }

theorem reportFill_counted (hc : (s.head h).fill = some c) (v : Verdict) : s.reportFill h v = s.counted h c v :=
  State.reportFill_eq hc v

theorem head_counted (s : State) (h g : HeadId) (c : FillContext) (v : Verdict) : (s.counted h c v).head g =
    if g = h then countedHead s.tracker.geometry.lockoutThreshold v { s.head h with fill := none } else s.head g :=
  vector_set_get _ _ _ _

theorem OnlyHead.counted (s : State) (h : HeadId) (c : FillContext) (v : Verdict) : OnlyHead h s (s.counted h c v)
    { s with
      reports := s.reports.filed (storedFill s.reports h c v)
      alarms := { s.alarmsFiled 1 with
        headLockout := s.alarms.headLockout ||
          locksOut s.tracker.geometry.lockoutThreshold v { s.head h with fill := none } } } :=
  .of_get (fun g hg => (head_counted s h g c v).trans (if_neg hg)) (fun _ _ => rfl) rfl

theorem LastOut.counted (hs : LastOut s h) (c : FillContext) (v : Verdict) : LastOut (s.counted h c v) h where
  draining := hs.draining
  last := hs.last
  flies := by rw [head_counted, if_pos rfl]; exact hs.flies

/-- The verdicts of a fill cut off by a contact loss, a discharge or a halt count nothing (R41). -/
theorem DrainsAs.uncounted (hs : LastOut s h) (c : FillContext) {v : Verdict} (hv : v = .shortSnift ∨ v = .burst) :
    DrainsAs { s with reports := s.reports.filed (storedFill s.reports h c v), alarms := s.alarmsFiled 1 }
      (s.counted h c v) := by
  have hv : v = .shortSnift ∨ v = .burst ∨ v = .halted ∨ v = .unfilled := hv.imp_right .inl
  have hself : (s.counted h c v).head h = { s.head h with fill := none } := by
    rw [head_counted, if_pos rfl, countedHead_unchanged hv]
  have honly := OnlyHead.counted s h c v
  rw [locksOut_unchanged hv, Bool.or_false] at honly
  refine of_only (h := h) ⟨honly.1, honly.2⟩ ?_ hs.not_skip ?_
  · rw [hself]; rfl
  · rw [hself]; exact hs.not_skip

theorem LastOut.abortFill (hs : LastOut s h) (hc : (s.head h).fill = some c) (v : Verdict) :
    DrainedFrom (s.counted h c v) (s.abortFill h v) := by
  unfold State.abortFill
  rw [hc]
  dsimp only
  rw [reportFill_counted hc]
  exact (DrainsAs.putOutput (s.counted h c v) h _).drainedFrom
    (((hs.counted c v).putOutput _).leaveFlight (.inl rfl) _)

theorem LastOut.endFill (hs : LastOut s h) (hc : (s.head h).fill = some c) (v : Verdict) :
    DrainedFrom (s.counted h c v) (s.endFill h v) := by
  unfold State.endFill
  rw [reportFill_counted hc]
  exact (hs.counted c v).leaveToIdle

/-! ### Its fill is judged -/

/-- The fill of a head judged: reported, the verdict counted, the head in DONE (R36, R40, R41). -/
def State.judgedFill (h : HeadId) (c : FillContext) (v : Verdict) (s : State) : State :=
  { s with
    heads := s.heads.set h (judgedHead s.tracker.geometry.lockoutThreshold v (s.head h))
    reports := s.reports.filed (storedFill s.reports h c v)
    alarms := { s.alarmsFiled 1 with
      headLockout := s.alarms.headLockout || judgedLock s.tracker.geometry.lockoutThreshold v (s.head h) } }

theorem head_judgedFill (s : State) (h g : HeadId) (c : FillContext) (v : Verdict) : (s.judgedFill h c v).head g =
    if g = h then judgedHead s.tracker.geometry.lockoutThreshold v (s.head h) else s.head g :=
  vector_set_get _ _ _ _

theorem DrainsAs.judgedFill (hs : LastOut s h) (r : Recipe) (c : FillContext) :
    DrainsAs (s.judgedFill h c (judgedVerdict r c)) (s.counted h c (judgedVerdict r c)) := by
  obtain ⟨hhead, hlock⟩ := countedHead_judged s.tracker.geometry.lockoutThreshold r c (s.head h)
  have hnew : (s.judgedFill h c (judgedVerdict r c)).head h =
      judgedHead s.tracker.geometry.lockoutThreshold (judgedVerdict r c) (s.head h) :=
    (head_judgedFill ..).trans (if_pos rfl)
  have hself : (s.counted h c (judgedVerdict r c)).head h =
      countedHead s.tracker.geometry.lockoutThreshold (judgedVerdict r c) { s.head h with fill := none } :=
    (head_counted ..).trans (if_pos rfl)
  have honly := OnlyHead.counted s h c (judgedVerdict r c)
  rw [hlock] at honly
  refine of_only (h := h) ⟨fun g hg => ⟨?_, rfl⟩, honly.2⟩ ?_ ?_ ?_
  · rw [head_counted, head_judgedFill, if_neg hg, if_neg hg]
  · rw [hself, hnew, ← hhead]; rfl
  · rw [hnew]; exact fun e => nomatch e
  · rw [hself]; exact hs.not_skip

theorem LastOut.finishSnift (hs : LastOut s h) (hc : (s.head h).fill = some c) :
    DrainedFrom (s.judgedFill h c (judgedVerdict (s.recipe c.slot) c)) (s.finishSnift h) := by
  have hm : s.mode ≠ .calibration := by rw [hs.draining]; decide
  unfold State.finishSnift
  rw [hc]
  dsimp only
  rw [if_neg hm, volumeVerdict_eq, reportFill_counted hc]
  exact (DrainsAs.judgedFill hs _ c).drainedFrom ((hs.counted c _).leaveFlight (.inr rfl) none)

/-- The learning step comes first, and the judged fill is the flagged one (R34, R71, R78). -/
theorem LastOut.finishSettle (hs : LastOut s h) (hc : (s.head h).fill = some c)
    (hdwell : (s.recipe c.slot).sniftDwell = 0) :
    DrainedFrom
      (State.judgedFill h (learnedContext (s.recipe c.slot) c) (judgedVerdict (s.recipe c.slot) c) { s with
        corrections := (s.learn h c).corrections
        reservation := if eligible (s.recipe c.slot) c = true ∧ s.reservation = some (h, c.slot) then none
          else s.reservation })
      (s.finishSettle h) := by
  have hm : s.mode ≠ .calibration := by rw [hs.draining]; decide
  have hself : (s.learnt h c).head h = { s.head h with fill := some (learnedContext (s.recipe c.slot) c) } :=
    (head_learnt ..).trans (if_pos rfl)
  have hframe := learnt_frame s h c
  have hlast : LastOut (s.learnt h c) h :=
    ⟨by rw [hframe]; exact hs.draining, by rw [hframe]; exact hs.last, by rw [hself]; exact hs.flies⟩
  have hrecipe : (s.learnt h c).recipe c.slot = s.recipe c.slot := by rw [hframe]; rfl
  have hdrained := hlast.finishSnift (c := learnedContext (s.recipe c.slot) c) (by rw [hself])
  rw [show (learnedContext (s.recipe c.slot) c).slot = c.slot from rfl, hrecipe] at hdrained
  have hjudged : (s.learnt h c).judgedFill h (learnedContext (s.recipe c.slot) c) (judgedVerdict (s.recipe c.slot) c) =
      State.judgedFill h (learnedContext (s.recipe c.slot) c) (judgedVerdict (s.recipe c.slot) c) { s with
        corrections := (s.learn h c).corrections
        reservation := if eligible (s.recipe c.slot) c = true ∧ s.reservation = some (h, c.slot) then none
          else s.reservation } := by
    unfold State.judgedFill
    rw [hself, hframe]
    dsimp only
    rw [Vector.set_set]
    rfl
  rw [finishSettle_filling hc hm, if_pos hdwell, ← hjudged]
  exact hdrained

/-! ### It is discharged by a crossing -/

/-- A crossing whose only arrival is the discharge of head `h`. -/
def DischargesOnly (s : State) (h : HeadId) : Prop :=
  ∀ g b, raisesAt s.tracker.geometry s.tracker.count b g = decide (g = h ∧ b = .discharge)

theorem arrivals_of_dischargesOnly (hr : DischargesOnly s h) :
    s.arrivals = [arrivalOf s.tracker.geometry s.tracker.count h .discharge] := by
  refine List.perm_singleton.mp
    ((List.perm_ext_iff_of_nodup (nodup_crossingArrivals _ _ _) (List.nodup_singleton _)).mpr fun a => ?_)
  rw [mem_crossingArrivals, hr, decide_eq_true_eq, List.mem_singleton]
  constructor
  · rintro ⟨⟨hh, hb⟩, ha⟩
    rw [ha, hh, hb]
  · rintro rfl
    exact ⟨⟨rfl, rfl⟩, rfl⟩

theorem stepForward_discharges (hm : s.mode = .draining) (hl : s.tracker.lead = 0) (hr : DischargesOnly s h) :
    s.stepForward = s.stepped.discharge h := by
  rw [State.stepForward_arrivals hl (State.fillingMode_of_draining hm), arrivals_of_dischargesOnly hr]
  have hproducing : s.stepped.mode.producing = true := by
    show s.mode.producing = true
    rw [hm]; rfl
  exact if_pos hproducing

theorem discharge_waiting (hc : (s.head h).cycle = .waitBottle) : s.discharge h = s.leaveToIdle h := by
  unfold State.discharge
  rw [hc]

theorem discharge_filling (hc : (s.head h).cycle.holdsFill = true) : s.discharge h = s.endFill h .shortSnift := by
  unfold State.discharge
  revert hc
  cases (s.head h).cycle <;> simp [CycleState.holdsFill, CycleState.isFillStage]

/-! ### Its meter is stuck -/

/-- A scan that uses no pulse changes nothing of a fill that its report shows (R40, R55, R57). -/
theorem storedFill_scannedContext (hstill : (s.lane h).counter = (s.lane h).lastSample)
    (hd : c.delivered ≤ 4294967295) (q : ReportQueue) (v : Verdict) :
    storedFill q h (s.scannedContext h c) v = storedFill q h c v := by
  have hraw : s.rawDelta h = 0 := by unfold State.rawDelta; rw [hstill, BitVec.sub_self]; rfl
  have hdelivered : sat32 (c.delivered + deltaUsed (s.recipe c.slot) 0 * c.factor) = c.delivered := by
    unfold sat32 deltaUsed
    rw [Nat.zero_min, Nat.zero_mul, Nat.add_zero]
    exact min_eq_left hd
  have hover : (c.flags.overrange || decide ((s.recipe c.slot).pulseCeiling < 0)) = c.flags.overrange := by simp
  unfold State.scannedContext
  rw [stuckContext_meterContext, hraw, hdelivered, hover]
  rfl

/-- A head's record with one more fault counted (R41). -/
def faultedHead (limit : Nat) (x : Head) : Head :=
  { x with
    faults := raisedFaults x
    enable := if lockedAt limit x then .lockedOut else x.enable }

/-- What the abort of a stuck fill and the lanes of its scan write, the heads' rest set aside (R32, R40, R41, R48). -/
def State.stuckFiled (b : BankId) (h : HeadId) (c : FillContext) (s : State) : State :=
  { s with
    lanes := (s.scanLanes b).lanes
    cleaning := (s.scanLanes b).cleaning
    heads := s.heads.set h (faultedHead s.tracker.geometry.lockoutThreshold (s.head h))
    reports := s.reports.filed (storedFill s.reports h c .meterStuck)
    alarms := { s.alarmsFiled 1 with
      headLockout := s.alarms.headLockout || lockedAt s.tracker.geometry.lockoutThreshold (s.head h) } }

section Scan

variable {b : BankId} (hbank : h.val / 16 = b.val)
  (hothers : ∀ g, g ≠ h → (s.head g).cycle.inFlight = false) (hstuck : s.stuckAt h = true)

include hothers

theorem laneWork_others {g : HeadId} (hg : g ≠ h) : s.laneWork g = none ∧ (s.head g).cycle.isFillStage = false := by
  have hstage : (s.head g).cycle.isFillStage = false := by
    by_contra hc
    have := hothers g hg
    rw [CycleState.inFlight_of_isFillStage (Bool.eq_true_of_not_eq_false hc)] at this
    cases this
  refine ⟨laneWork_unmetered hstage fun hc => ?_, hstage⟩
  have := hothers g hg
  rw [hc] at this
  cases this

/-- Before the aborts the other heads stand as they were. -/
theorem beforeAborts_others {g : HeadId} (hg : g ≠ h) :
    (s.beforeAborts b).head g = s.head g ∧ (s.beforeAborts b).output g = s.output g := by
  obtain ⟨hwork, hstage⟩ := laneWork_others hothers hg
  by_cases hb : g.val / 16 = b.val
  · obtain ⟨hhead, hout⟩ := beforeAborts_noFillStage hb hstage
    exact ⟨hhead.trans (meteredHead_of_laneWork_none hwork), hout⟩
  · exact beforeAborts_elsewhere hb

include hbank hstuck

theorem stuckHeads_alone : s.stuckHeads b = [h] :=
  stuckHeads_eq_singleton hbank hstuck fun _ hg _ =>
    Bool.eq_false_of_not_eq_true (not_stuckAt_of_noFillStage (laneWork_others hothers hg).2)

theorem beforeAborts_choices : (s.beforeAborts b).choices = s.choices := by
  have hlength : (s.abortedBy b).length = 1 := by
    have hone := congrArg List.length (stuckHeads_alone hbank hothers hstuck)
    unfold State.stuckHeads abortOrder at hone
    rwa [List.length_insertionSort] at hone
  unfold State.beforeAborts
  rw [hlength]
  rfl

/-- The only fill in flight, aborted by a scan (R32, R138). -/
theorem LastOut.scanBank (hs : LastOut s h) (hc : (s.head h).fill = some c)
    (hstill : (s.lane h).counter = (s.lane h).lastSample) (hd : c.delivered ≤ 4294967295) :
    DrainedFrom (s.stuckFiled b h c) (s.scanBank b) := by
  have hframe := beforeAborts_frame b s
  have hself := head_beforeAborts_stuck hbank (stuckAt_fill hstuck).2 hc hstuck
  have hlast : LastOut (s.beforeAborts b) h :=
    ⟨by rw [hframe]; exact hs.draining, by rw [hframe]; exact hs.last, by rw [hself]; exact hs.flies⟩
  have habort : s.scanBank b = (s.beforeAborts b).abortFill h .meterStuck := by
    rw [scanBank_eq, stuckHeads_alone hbank hothers hstuck]
    exact if_neg (by rw [hlast.draining]; decide)
  rw [habort]
  refine DrainsAs.drainedFrom ?_ (hlast.abortFill (c := s.scannedContext h c) (by rw [hself]) .meterStuck)
  have hfiled : (s.beforeAborts b).counted h (s.scannedContext h c) .meterStuck = { s.stuckFiled b h c with
      heads := ((s.beforeAborts b).counted h (s.scannedContext h c) .meterStuck).heads
      outputs := (s.beforeAborts b).outputs } := by
    unfold State.counted State.stuckFiled
    rw [hself, (countedHead_meterStuck _ _).2]
    generalize countedHead _ _ _ = x
    rw [hframe]
    simp only [storedFill_scannedContext hstill hd, beforeAborts_choices hbank hothers hstuck]
    rfl
  have hold : (s.stuckFiled b h c).head h = faultedHead s.tracker.geometry.lockoutThreshold (s.head h) :=
    (vector_set_get _ _ _ _).trans (if_pos rfl)
  have hnew : ((s.beforeAborts b).counted h (s.scannedContext h c) .meterStuck).head h =
      { faultedHead s.tracker.geometry.lockoutThreshold (s.head h) with fill := none } := by
    have hlimit : (s.beforeAborts b).tracker = s.tracker := by rw [hframe]
    rw [head_counted, if_pos rfl, hself, hlimit, (countedHead_meterStuck _ _).1]
    rfl
  refine .of_only (h := h) ⟨fun g hg => ?_, ?_⟩ ?_ ?_ ?_
  · obtain ⟨ehead, eout⟩ := beforeAborts_others (b := b) hothers hg
    exact ⟨((head_counted ..).trans (if_neg hg)).trans
      (ehead.trans ((vector_set_get _ _ _ _).trans (if_neg hg)).symm), eout⟩
  · have hflight : ((s.beforeAborts b).counted h (s.scannedContext h c) .meterStuck).inFlight = s.inFlight :=
      hlast.last.trans hs.last.symm
    rw [hflight]
    exact hfiled
  · rw [hnew, hold]
    rfl
  · rw [hold]
    exact hs.not_skip
  · rw [hnew]
    exact hs.not_skip

end Scan

/-! ### Every event that takes it out -/

/-- Settles O42: each event runs the operation that takes the head out of flight, on the state with the event's own
effect. -/
theorem lastHeadOutEndsDraining : Obligations.LastHeadOutEndsDraining := by
  intro h s hs hm hn x level limit ends judged cut crossed discharged
  have hcal : s.mode ≠ .calibration := by rw [hm]; decide
  have hstepped : s.stepped = crossed := by
    unfold State.stepped
    rw [if_pos hm]
  have hcross : discharged → exec .encoderForwardStep s = .next (crossed.discharge h) := fun ⟨hf, hl, hr⟩ => by
    rw [exec_encoderForwardStep hs, if_neg hf, stepForward_discharges hm hl hr, hstepped]
  have hlast : x.cycle.inFlight = true → LastOut s h := fun hc => ⟨hm, hn, hc⟩
  have hcrossed : x.cycle.inFlight = true → LastOut crossed h := fun hc => ⟨hm, hn, hc⟩
  refine ⟨fun hc ht => ?_, fun hc hd => ?_, fun hc hcontact ha hp => ?_, fun c hfill => ?_⟩
  · exact ⟨_, congrArg Host.Outcome.next (onExpiry_running hs hc ht _), (hlast (by rw [hc]; rfl)).leaveToIdle⟩
  · refine ⟨_, hcross hd, ?_⟩
    rw [discharge_waiting (s := crossed) hc]
    exact (hcrossed (by rw [hc]; rfl)).leaveToIdle
  · refine ⟨_, exec_contactArrival hs hcontact, ?_⟩
    rw [contactCame_skips (s := s.withContact h true) hcal hc ha hp]
    exact LastOut.skip ⟨hm, hn, by show x.cycle.inFlight = true; rw [hc]; rfl⟩
  intro r e outlier learns c'
  refine ⟨fun hc hcontact => ⟨_, exec_contactLoss hs hcontact, ?_⟩, fun hc ht => ?_, fun hc ht hdwell => ?_,
    fun b hbank hothers hstuck hstill hd => ?_, fun hc hd => ⟨_, hcross hd, ?_⟩⟩
  · have hlevel : LastOut level h := ⟨hm, hn, CycleState.inFlight_of_holdsFill hc⟩
    by_cases hsnift : x.cycle = .snift
    · rw [if_pos hsnift, contactWent_shortSnift (s := level) hcal hsnift]
      exact (DrainsAs.uncounted hlevel c (.inl rfl)).drainedFrom (hlevel.endFill hfill _)
    · rw [if_neg hsnift, contactWent_bursts (s := level) hcal hc hsnift]
      exact (DrainsAs.uncounted hlevel c (.inr rfl)).drainedFrom (hlevel.abortFill hfill _)
  · exact ⟨_, congrArg Host.Outcome.next (onExpiry_running hs hc ht _), (hlast (by rw [hc]; rfl)).finishSnift hfill⟩
  · have hlearns : eligible r c = learns := by
      unfold eligible
      rw [isOutlier_iff]
    have hcontext : learnedContext r c = c' := by
      unfold learnedContext
      rw [isOutlier_iff, hlearns]
    have hdrained := (hlast (by rw [hc]; rfl)).finishSettle hfill hdwell
    have hcorrections : (s.finishSettle h).corrections = (s.learn h c).corrections := by rw [hdrained.2]; rfl
    rw [show learnedContext (s.recipe c.slot) c = c' from hcontext,
      show eligible (s.recipe c.slot) c = learns from hlearns, ← hcorrections] at hdrained
    refine ⟨s.finishSettle h, congrArg _ (onExpiry_running hs hc ht _), hdrained, fun g k => ?_⟩
    have hentry := (s.learn_spec h c).2 g k
    rw [show eligible (s.recipe c.slot) c = learns from hlearns] at hentry
    unfold State.correction at hentry ⊢
    rw [hcorrections]
    exact hentry
  · have hflies := CycleState.inFlight_of_isFillStage (stuckAt_fill hstuck).2
    have hdrained := (hlast hflies).scanBank hbank hothers hstuck hfill hstill hd
    have hlanes : (s.scanBank b).lanes = (s.scanLanes b).lanes := by rw [hdrained.2]; rfl
    have hcleaning : { s.cleaning with counters := (s.scanBank b).cleaning.counters } = (s.scanLanes b).cleaning := by
      rw [hdrained.2]; rfl
    refine ⟨s.scanBank b, congrArg _ (event_of_running hs _), ?_⟩
    rw [hlanes, hcleaning]
    exact hdrained
  · have hlast := hcrossed (CycleState.inFlight_of_holdsFill hc)
    rw [discharge_filling (s := crossed) hc]
    exact (DrainsAs.uncounted hlast c (.inl rfl)).drainedFrom (hlast.endFill hfill _)

end Sys2Proof.Machine
end

section
/-! SUPPORT. How a calibration ends, by request or by a halt: the run in DOSING cut off, and what else changes
(R44, R139, R159, R160). -/

namespace Sys2Proof.Machine

variable {s : State} {h : HeadId}

/-! ### The end of a calibration -/

/-- In `t` the run of head `h` with context `c`, in DOSING at `s`, is cut off: the head at rest, CU in IDLE with the run
ABANDONED at D as the last scan left it (R159, R160). -/
structure RunCut (h : HeadId) (c : FillContext) (s t : State) : Prop where
  rest : t.head h = (s.head h).atRest
  cal : t.cal = ⟨none, none, .idle, some ⟨h, .abandoned, c.delivered / c.factor, c.delivered, none, none, none⟩⟩

/-- Without a run in DOSING only CU changes (R159). -/
theorem endCalibration_noRun (hd : s.cal.state ≠ .dosing) :
    s.endCalibration = { s with cal := ⟨none, none, .idle, s.cal.last⟩ } := by
  have hkept : s.abandonRun = s := by
    unfold State.abandonRun
    split
    · exact if_neg hd
    · rfl
  unfold State.endCalibration
  rw [hkept]
  rfl

/-- A run in DOSING ends as ABANDONED before CU goes to IDLE (R159, R160). -/
theorem endCalibration_run (hd : s.cal.state = .dosing) (hh : s.cal.head = some h) :
    s.endCalibration = { s.endRun h .abandoned .idle with cal := (s.endRun h .abandoned .idle).cal.ended } := by
  unfold State.endCalibration State.abandonRun
  rw [hh]
  simp only [hd, if_true]

/-- The end of a calibration cuts a run in DOSING off and changes only its head, CU and the in-flight count (R159). -/
theorem endCalibration_cuts {c : FillContext} (hd : s.cal.state = .dosing) (hh : s.cal.head = some h)
    (hfill : (s.head h).fill = some c) :
    let t := s.endCalibration
    RunCut h c s t ∧ (t.output h).opened = Outputs.allOff ∧
      OnlyHead h s t { s with inFlight := s.inFlight - one (s.head h).cycle.inFlight, cal := t.cal } := by
  intro t
  obtain ⟨hhead, hopen, hothers, hframe⟩ := State.endRun_spec hfill .abandoned .idle
  have ht : t = { s.endRun h .abandoned .idle with cal := (s.endRun h .abandoned .idle).cal.ended } :=
    endCalibration_run hd hh
  rw [ht]
  generalize s.endRun h .abandoned .idle = u at hhead hopen hothers hframe ⊢
  refine ⟨⟨hhead, ?_⟩, hopen, hothers, ?_⟩
  · rw [hframe]; rfl
  · rw [hframe]

/-! ### HALT in a calibration -/

/-- A halt in CALIBRATION reports no fill, so a head creates what the end of DRAINING would create (R44, R160). -/
theorem reportHalted_calibration (hm : s.mode = .calibration) (h : HeadId) : s.reportHalted h = s.reportSkipped h := by
  have still : (s.head h).cycle ≠ .skip → s = s.reportSkipped h := fun hc =>
    (reportSkipped_none (if_neg fun hs => hc hs.1)).symm
  unfold State.reportHalted
  cases hc : (s.head h).cycle with
  | skip => rfl
  | pressurize | fillSoft | fillFast | fillTopUp | closing | snift =>
    exact (if_pos hm).trans (still (by rw [hc]; decide))
  | _ => exact still (by rw [hc]; decide)

/-- A halt of the heads in CALIBRATION (R44, R160): every head to rest, the skipped bottles reported. -/
theorem haltHeads_calibration_spec (hm : s.mode = .calibration) :
    let t := s.haltHeads
    (∀ g, t.head g = (s.head g).atRest) ∧ t = { s with
      heads := t.heads
      outputs := t.outputs
      inFlight := 0
      reports := s.reports.filedAll (allHeads.filterMap (drainContent s))
      alarms := s.alarmsFiled (allHeads.filterMap (drainContent s)).length } := by
  obtain ⟨hframe, hheads, -⟩ := fold_reports .calibration (fun t h => t.reportHalted h) drainContent
    (fun t h e hc => (reportHalted_calibration e h).trans (reportSkipped_none hc))
    (fun t h r e hc => reportHalted_calibration e h ▸ reportSkipped_some hc) drainContent_congr allHeads nodup_allHeads
    s hm
  unfold State.haltHeads
  generalize allHeads.foldl (fun t h => t.reportHalted h) s = u at hframe hheads ⊢
  refine ⟨fun g => (State.head_clearHeads u g).trans (hheads g), ?_⟩
  have hclear : { u with heads := u.clearHeads.heads, outputs := u.clearHeads.outputs, inFlight := 0 } = u.clearHeads := rfl
  rw [← hclear, hframe]

/-- A halt of the D64 in CALIBRATION with a run in DOSING (R139, R160); it creates no report where the other heads are
in IDLE. -/
theorem haltAll_cuts {c : FillContext} (hm : s.mode = .calibration) (hd : s.cal.state = .dosing)
    (hh : s.cal.head = some h) (hfill : (s.head h).fill = some c) :
    let t := s.haltAll
    RunCut h c s t ∧ t.mode = .halted ∧ t.inFlight = 0 ∧
      ((∀ g, g ≠ h → (s.head g).cycle = .idle) → t.reports = s.reports) := by
  obtain ⟨hcut, -, hothers, hframe⟩ := endCalibration_cuts hd hh hfill
  unfold State.haltAll
  dsimp only
  generalize s.endCalibration = u at hcut hothers hframe ⊢
  obtain ⟨hrest, hhalted⟩ := haltHeads_calibration_spec (s := u) (by rw [hframe]; exact hm)
  generalize u.haltHeads = v at hrest hhalted ⊢
  refine ⟨⟨(hrest h).trans (by rw [hcut.rest]; rfl), ?_⟩, rfl, ?_, fun hidle => ?_⟩
  · show v.cal = _
    rw [hhalted, ← hcut.cal]
  · show v.inFlight = 0
    rw [hhalted]
  · have hcycle : ∀ g, (u.head g).cycle = .idle := fun g => by
      by_cases e : g = h
      · rw [e, hcut.rest]; rfl
      · rw [(hothers g e).1]; exact hidle g e
    have hnone : allHeads.filterMap (drainContent u) = [] := List.filterMap_eq_nil_iff.mpr fun g _ =>
      if_neg fun hs => by rw [hcycle g] at hs; cases hs.1
    show v.reports = _
    rw [hhalted, hnone, hframe]
    rfl

end Sys2Proof.Machine
end

section
/-! PROPERTY. The Calibration Unit's requests: START CALIBRATION, END CALIBRATION and ENTER ACTUAL VOLUME, and the
broadcast HALT in a calibration (R153, R158, R159, R160). -/

namespace Sys2Proof.Machine

variable {s : State} {h : HeadId}

theorem between_iff (lo hi n : Nat) : between lo hi n = true ↔ lo ≤ n ∧ n ≤ hi := by
  simp only [between, Bool.and_eq_true, decide_eq_true_eq]

/-! ### START CALIBRATION -/

theorem startCalibration_badField (hm : s.mode = .standby) {head target : Nat}
    (hbad : 63 < head ∨ ¬(10000 ≤ target ∧ target ≤ 3000000)) :
    startCalibration head target s = refuse .badField s := by
  unfold startCalibration
  rw [if_pos hm]
  rcases hbad with hhead | hrange
  · rw [inRange?_ge hhead]
  · split
    · rfl
    · exact if_pos (Bool.eq_false_iff.mpr fun hb => hrange ((between_iff _ _ _).mp hb))

/-- With both fields in range, the head's factor and then its active slot decide (R153). -/
theorem startCalibration_fields (hm : s.mode = .standby) {target : Nat} (ht : 10000 ≤ target ∧ target ≤ 3000000) :
    startCalibration h.val target s =
      if (s.head h).factor = 0 then refuse .headUncalibrated s
      else if (s.head h).active = none then refuse .recipeMissing s
      else accept [] { s with cal := ⟨some h, some target, .armed, s.cal.last⟩, mode := .calibration } := by
  unfold startCalibration
  rw [if_pos hm, inRange?_fin]
  simp only [(between_iff _ _ _).mpr ht, Option.isNone_iff_eq_none, Bool.true_eq_false, if_false]

/-! ### END CALIBRATION -/

theorem endCalibrationRequest_accepted (hm : s.mode = .calibration) :
    endCalibrationRequest s = accept [] (s.endCalibration.setMode s.afterService) := if_pos hm

/-- Settles O46: START CALIBRATION in the order of R153, and the end of a calibration by request and by HALT. -/
theorem startAndEndCalibration : Obligations.StartAndEndCalibration := by
  refine ⟨fun head target s hs => ?_, fun s hs => ⟨fun hm => ?_, fun hm hd => ?_, fun hm hd h c hh hfill => ⟨?_, ?_⟩⟩⟩
  · intro op refused fits
    have refusedBy : ∀ st, startCalibration head target s = refuse st s → refused st := fun st hr =>
      congrArg _ (transact_refused hs hr)
    refine ⟨fun hm => refusedBy _ (if_neg hm), fun hm hbad => refusedBy _ (startCalibration_badField hm hbad),
      fun h hhead hm ht => ?_⟩
    subst hhead
    have hfields := startCalibration_fields (h := h) hm ht
    exact ⟨fun hf => refusedBy _ (hfields.trans (if_pos hf)),
      fun hf ha => refusedBy _ (hfields.trans ((if_neg hf).trans (if_pos ha))),
      fun hf ha => congrArg _ (transact_accepted hs (hfields.trans ((if_neg hf).trans (if_neg ha))))⟩
  · exact congrArg _ (transact_refused hs (if_neg hm))
  · have hends := endCalibrationRequest_accepted hm
    rw [endCalibration_noRun hd] at hends
    exact congrArg _ (transact_accepted hs hends)
  · obtain ⟨hcut, hopen, hothers, hframe⟩ := endCalibration_cuts hd hh hfill
    rw [hcut.cal] at hframe
    refine ⟨s.endCalibration.setMode s.afterService, congrArg _ (transact_accepted hs (endCalibrationRequest_accepted hm)),
      hcut.rest, hopen, ⟨hothers, ?_⟩, fun hflies => ?_⟩
    · generalize s.endCalibration = u at hframe ⊢
      rw [hframe]
      rfl
    · show s.endCalibration.inFlight = _
      rw [hframe, hflies]
      rfl
  · have hlistens := hs
    simp only [State.listening, Bool.and_eq_true, decide_eq_true_eq] at hlistens
    obtain ⟨⟨hruns, hrx⟩, -⟩ := hlistens
    obtain ⟨hcut, hends⟩ := haltAll_cuts hm hd hh hfill
    refine ⟨s.haltAll, ?_, hcut.rest, hcut.cal, hends⟩
    rw [exec_broadcastHalt, event_of_running hruns, if_neg hrx]
    rfl

/-! ### ENTER ACTUAL VOLUME -/

theorem enterActualVolume_calState {volume : Nat} (hc : s.mode ≠ .calibration ∨ s.cal.state ≠ .awaitActual) :
    enterActualVolume volume s = refuse .calState s :=
  if_neg fun ha => hc.elim (absurd ha.1) (absurd ha.2)

theorem enterActualVolume_badField {volume : Nat} (hm : s.mode = .calibration) (hc : s.cal.state = .awaitActual)
    (hv : 4294967 < volume) : enterActualVolume volume s = refuse .badField s :=
  (if_pos ⟨hm, hc⟩).trans (if_pos hv)

/-- In AWAIT_ACTUAL, a volume in range is plausible for the run and gives a factor in range, or is refused (R158). -/
theorem enterActualVolume_judged {volume : Nat} {run : CalResult} (hm : s.mode = .calibration)
    (hc : s.cal.state = .awaitActual) (hv : volume ≤ 4294967) (hh : s.cal.head = some h)
    (hl : s.cal.last = some run) :
    let actual := volume * 1000
    let old := (s.head h).factor
    let new := newFactor old actual run.measured
    enterActualVolume volume s =
      if 9 * run.measured ≤ 10 * actual ∧ 10 * actual ≤ 11 * run.measured ∧ 200 ≤ new ∧ new ≤ 65535 then
        accept (leBytes 2 old ++ leBytes 2 new)
          { s with
            heads := s.heads.set h { s.head h with factor := new }
            cal := { s.cal with
              state := .armed
              last := some ⟨run.head, .factorWritten, run.pulses, run.measured, some actual, some old, some new⟩ } }
      else refuse .calImplausible s := by
  intro actual old new
  have hfits : (plausible actual run.measured && between 200 65535 new) = true ↔
      9 * run.measured ≤ 10 * actual ∧ 10 * actual ≤ 11 * run.measured ∧ 200 ≤ new ∧ new ≤ 65535 := by
    rw [Bool.and_eq_true, between_iff]
    simp only [plausible, Bool.and_eq_true, decide_eq_true_eq, and_assoc]
  unfold enterActualVolume
  rw [if_pos ⟨hm, hc⟩, if_neg (Nat.not_lt.mpr hv), hh, hl]
  simp only [← hfits]
  rfl

/-- Settles O47: the refusals in the order of R158, then the factor by the rounded quotient. -/
theorem enterActualVolumeWritesTheFactor : Obligations.EnterActualVolumeWritesTheFactor := by
  intro volume s hs op
  refine ⟨fun hc => congrArg _ (transact_refused hs (enterActualVolume_calState hc)), fun hm hc =>
    ⟨fun hv => congrArg _ (transact_refused hs (enterActualVolume_badField hm hc hv)), fun h run hh hl hv => ?_⟩⟩
  have hjudged := enterActualVolume_judged hm hc hv hh hl
  exact ⟨fun hf => congrArg _ (transact_refused hs (hjudged.trans (if_neg hf))),
    fun hf => congrArg _ (transact_accepted hs (hjudged.trans (if_pos hf)))⟩

end Sys2Proof.Machine
end

section
/-! PROPERTY. The Cleaning Sequencer's requests and phases: START CLEANING, the open and the pause expiry, and READ
CLEANING VOLUMES (R114, R142, R162 to R165, R168, R181). -/

namespace Sys2Proof.Machine

variable {s : State}

/-! ### START CLEANING -/

theorem planInRange_iff (openTime pauseTime cycles : Nat) : planInRange openTime pauseTime cycles = true ↔
    100 ≤ openTime ∧ openTime ≤ 60000 ∧ pauseTime ≤ 60000 ∧ 1 ≤ cycles ∧ cycles ≤ 255 := by
  unfold planInRange
  simp only [Bool.and_eq_true, between_iff, Nat.zero_le, true_and, and_assoc]

theorem startCleaning_badField (hm : s.mode = .standby) {openTime pauseTime cycles : Nat}
    (hp : planInRange openTime pauseTime cycles = false) :
    startCleaning openTime pauseTime cycles s = refuse .badField s :=
  (if_pos hm).trans (if_pos hp)

theorem startCleaning_nothingEnabled (hm : s.mode = .standby) {openTime pauseTime cycles : Nat}
    (hp : planInRange openTime pauseTime cycles = true) (he : ∀ h, (s.head h).enable ≠ .enabled) :
    startCleaning openTime pauseTime cycles s = refuse .nothingEnabled s :=
  (if_pos hm).trans ((if_neg (by simp [hp])).trans (if_pos (by simpa using he)))

/-- The state of CS and MC as a cleaning run begins; the heads have not moved yet (R163). -/
def State.cleaningBegun (s : State) (plan : CleaningPlan) : State :=
  { s with
    mode := .cleaning
    cleaning :=
      ⟨some plan, .openPhase, 1, 0, Vector.ofFn fun h : HeadId => decide ((s.head h).enable = .enabled),
        some plan.openTime, Vector.replicate 64 0, Vector.replicate 64 false, .running⟩ }

theorem startCleaning_accepted (hm : s.mode = .standby) {openTime pauseTime cycles : Nat}
    (hp : planInRange openTime pauseTime cycles = true) (he : ∃ h, (s.head h).enable = .enabled) :
    startCleaning openTime pauseTime cycles s =
      accept [] (State.driveTo .cleanOpen (s.cleaningBegun ⟨openTime, pauseTime, cycles⟩)) :=
  (if_pos hm).trans ((if_neg (by simp [hp])).trans (if_neg (by simpa using he)))

theorem driven_cleaningBegun (s : State) (plan : CleaningPlan) (h : HeadId) :
    (s.cleaningBegun plan).cleaning.driven[h] = decide ((s.head h).enable = .enabled) := vector_ofFn_get _ h

/-- Heads that are not in flight, taken to a state that is not in flight, leave the in-flight count (R42). -/
theorem inFlight_driveTo {c : CycleState} (hc : c.inFlight = false) (hs : ∀ h, (s.head h).cycle.inFlight = false) :
    (s.driveTo c).inFlight = s.inFlight := by
  refine (List.foldlRecOn
    (motive := fun t : State => t.inFlight = s.inFlight ∧ ∀ g, (t.head g).cycle.inFlight = false)
    s.drivenHeads _ ⟨rfl, hs⟩ fun t ⟨hcount, hrests⟩ h _ => ⟨?_, fun g => ?_⟩).1
  · rw [(OnlyHead.enter h c none t).2, hc, hrests h]
    exact hcount
  · rw [State.head_enter]
    split
    · exact hc
    · exact hrests g

/-- Settles O48: the refusals in the order of R163, then the run begun and its driven heads opened. -/
theorem startCleaningDrivesTheEnabledHeads : Obligations.StartCleaningDrivesTheEnabledHeads := by
  intro openTime pauseTime cycles s hs op refused fits
  have refusedBy : ∀ st, startCleaning openTime pauseTime cycles s = refuse st s → refused st := fun st hr =>
    congrArg _ (transact_refused hs hr)
  have hfits : planInRange openTime pauseTime cycles = true ↔ fits := planInRange_iff ..
  refine ⟨fun hm => refusedBy _ (if_neg hm),
    fun hm hbad => refusedBy _ (startCleaning_badField hm (Bool.eq_false_iff.mpr (hfits.not.mpr hbad))),
    fun hm hf he => refusedBy _ (startCleaning_nothingEnabled hm (hfits.mpr hf) he), fun hm hf he hidle => ?_⟩
  have haccepted := startCleaning_accepted hm (hfits.mpr hf) he
  have hcount := inFlight_driveTo (s := s.cleaningBegun ⟨openTime, pauseTime, cycles⟩) (c := .cleanOpen) rfl
    fun h => congrArg CycleState.inFlight (hidle h)
  obtain ⟨hframe, hheads⟩ := State.driveTo_spec .cleanOpen (s.cleaningBegun ⟨openTime, pauseTime, cycles⟩)
  simp only [driven_cleaningBegun, decide_eq_true_eq, decide_eq_false_iff_not] at hheads
  refine ⟨_, congrArg _ (transact_accepted hs haccepted), ?_, hheads⟩
  rw [hcount] at hframe
  exact hframe

/-! ### The phases of a run -/

/-- What a phase expiry leaves: every head that is not driven, and all of the state but the heads, MC's mode and
CS. -/
def CleaningFrame (s t : State) : Prop :=
  (∀ h : HeadId, s.cleaning.driven[h] = false → t.head h = s.head h ∧ t.output h = s.output h) ∧
    t = { s with
      heads := t.heads
      outputs := t.outputs
      inFlight := t.inFlight
      mode := t.mode
      cleaning := t.cleaning }

/-- The driven heads stand in a cleaning state with the outputs given open (R163 to R165). -/
def DrivenTo (s t : State) (c : CycleState) (o : Outputs) : Prop :=
  ∀ h : HeadId,
    t.head h = (if s.cleaning.driven[h] then { s.head h with cycle := c, timer := none } else s.head h) ∧
      (s.cleaning.driven[h] = true → (t.output h).opened = o)

/-- The driven heads stand in IDLE with every output closed (R165). -/
def DrivenReleased (s t : State) : Prop :=
  ∀ h : HeadId, t.head h = (if s.cleaning.driven[h] then (s.head h).atRest else s.head h) ∧
    (s.cleaning.driven[h] = true → (t.output h).opened = Outputs.allOff)

/-- A cleaning state opens the same outputs at every driven head, whatever its profile and vent flag. -/
theorem driveTo_drives {c : CycleState} {o : Outputs} (ho : ∀ vent drive, openSet c vent drive = o) (s : State) :
    CleaningFrame s (s.driveTo c) ∧ (s.driveTo c).cleaning = s.cleaning ∧ (s.driveTo c).mode = s.mode ∧
      DrivenTo s (s.driveTo c) c o := by
  obtain ⟨hframe, hheads⟩ := State.driveTo_spec c s
  generalize s.driveTo c = t at hframe hheads ⊢
  refine ⟨⟨fun h hd => ?_, ?_⟩, by rw [hframe], by rw [hframe], fun h => ?_⟩
  · obtain ⟨hhead, -, hout⟩ := hheads h
    exact ⟨hhead.trans (if_neg (by simp [hd])), hout hd⟩
  · rw [hframe]
  · obtain ⟨hhead, hopen, -⟩ := hheads h
    exact ⟨hhead, fun hd => (hopen hd).trans (ho _ _)⟩

/-- What CS holds once the next cycle has begun (R165). -/
def Cleaning.cycleBegun (c : Cleaning) (plan : CleaningPlan) : Cleaning :=
  { c with cycle := c.cycle + 1, phase := .openPhase, timer := some plan.openTime }

/-- The next cycle opens WIDE and NARROW at every driven head (R165). -/
theorem nextCycle_spec (s : State) (plan : CleaningPlan) :
    let t := s.nextCycle plan
    CleaningFrame s t ∧ t.cleaning = s.cleaning.cycleBegun plan ∧ t.mode = s.mode ∧
      DrivenTo s t .cleanOpen ⟨false, true, true, false⟩ :=
  driveTo_drives (fun _ _ => rfl) { s with cleaning := s.cleaning.cycleBegun plan }

/-- A complete run releases every driven head, to the mode that follows a service unit (R142, R165). -/
theorem completeCleaning_spec (s : State) :
    let t := s.completeCleaning
    CleaningFrame s t ∧ t.cleaning = s.cleaning.over .complete ∧ t.mode = s.afterService ∧ DrivenReleased s t := by
  obtain ⟨hframe, hheads⟩ := s.releaseDriven_spec
  unfold State.completeCleaning
  generalize s.releaseDriven = u at hframe hheads ⊢
  refine ⟨⟨fun h hd => ?_, ?_⟩, rfl, rfl, fun h => ?_⟩
  · obtain ⟨hhead, -, hout⟩ := hheads h
    exact ⟨hhead.trans (if_neg (by simp [hd])), hout hd⟩
  · rw [hframe]
  · obtain ⟨hhead, hopen, -⟩ := hheads h
    exact ⟨hhead, hopen⟩

/-- The present cycle is followed by the next one, or the plan is complete (R165). -/
theorem endCycle_spec (s : State) (plan : CleaningPlan) :
    let t := s.endCycle plan
    CleaningFrame s t ∧
      (s.cleaning.cycle < plan.cycles →
        t.cleaning = s.cleaning.cycleBegun plan ∧ t.mode = s.mode ∧
          DrivenTo s t .cleanOpen ⟨false, true, true, false⟩) ∧
      (plan.cycles ≤ s.cleaning.cycle →
        t.cleaning = s.cleaning.over .complete ∧ t.mode = s.afterService ∧ DrivenReleased s t) := by
  rcases Nat.lt_or_ge s.cleaning.cycle plan.cycles with hless | hdone
  · rw [show s.endCycle plan = s.nextCycle plan from if_pos hless]
    obtain ⟨hframe, hnext⟩ := nextCycle_spec s plan
    exact ⟨hframe, fun _ => hnext, fun hdone => absurd hdone (Nat.not_le.mpr hless)⟩
  · rw [show s.endCycle plan = s.completeCleaning from if_neg (Nat.not_lt.mpr hdone)]
    obtain ⟨hframe, hover⟩ := completeCleaning_spec s
    exact ⟨hframe, fun hless => absurd hdone (Nat.not_le.mpr hless), fun _ => hover⟩

theorem exec_openPhaseExpiry {plan : CleaningPlan} (hs : s.running = true) (hp : s.cleaning.plan = some plan)
    (hphase : s.cleaning.phase = .openPhase) : exec .openPhaseExpiry s = .next (s.endOpenPhase plan) := by
  refine congrArg Host.Outcome.next ((event_of_running hs _).trans ?_)
  rw [hp]
  exact if_pos hphase

theorem exec_pausePhaseExpiry {plan : CleaningPlan} (hs : s.running = true) (hp : s.cleaning.plan = some plan)
    (hphase : s.cleaning.phase = .pausePhase) : exec .pausePhaseExpiry s = .next (s.endCycle plan) := by
  refine congrArg Host.Outcome.next ((event_of_running hs _).trans ?_)
  rw [hp]
  exact if_pos hphase

/-- The no-flow marks are judged at the open expiry that finds no cycle done (R164). -/
theorem countOpen_eq (c : Cleaning) : c.countOpen = { c with
    cyclesDone := c.cyclesDone + 1
    noFlow := if c.cyclesDone = 0 then
      Vector.ofFn fun h : HeadId => c.noFlow[h] || (c.driven[h] && decide (c.counters[h] = 0)) else c.noFlow } := by
  unfold Cleaning.countOpen
  simp only [Nat.add_eq_right]
  rfl

/-- Settles O49: the open expiry by its pause, the pause expiry and the open expiry without a pause by the end of the
cycle. -/
theorem cleaningPhasesFollowThePlan : Obligations.CleaningPhasesFollowThePlan := by
  intro s plan hs hm hp marks counted framed driven again finished
  refine ⟨fun hphase => ⟨_, exec_openPhaseExpiry hs hp hphase, ?_⟩,
    fun hphase => ⟨_, exec_pausePhaseExpiry hs hp hphase, ?_⟩⟩
  · have hcounted : s.cleaning.countOpen = counted := countOpen_eq s.cleaning
    unfold State.endOpenPhase
    rw [hcounted]
    by_cases hpause : plan.pauseTime = 0
    · rw [if_pos hpause]
      obtain ⟨hframe, hagain, hfinished⟩ := endCycle_spec { s with cleaning := counted } plan
      refine ⟨hframe, fun hno => absurd hpause hno, fun _ hless => ?_, fun _ hdone => hfinished hdone⟩
      obtain ⟨hcleaning, hmode, hdriven⟩ := hagain hless
      exact ⟨hcleaning, hmode.trans hm, hdriven⟩
    · rw [if_neg hpause]
      obtain ⟨hframe, hcleaning, hmode, hdriven⟩ := driveTo_drives (c := .cleanPause) (fun _ _ => rfl)
        { s with cleaning := { counted with phase := .pausePhase, timer := some plan.pauseTime } }
      exact ⟨hframe, fun _ => ⟨hcleaning, hmode.trans hm, hdriven⟩, fun hno => absurd hno hpause,
        fun hno => absurd hno hpause⟩
  · obtain ⟨hframe, hagain, hfinished⟩ := endCycle_spec s plan
    refine ⟨hframe, fun hless => ?_, fun hdone => hfinished hdone⟩
    obtain ⟨hcleaning, hmode, hdriven⟩ := hagain hless
    exact ⟨hcleaning, hmode.trans hm, hdriven⟩

/-! ### READ CLEANING VOLUMES -/

/-- The number of a head mask is the number of its bits. -/
theorem sum_maskBit_eq_ofBits {n : Nat} (p : Fin n → Bool) :
    (List.finRange n).foldr (fun h m => maskBit (p h) h.val + m) 0 = Nat.ofBits p := by
  have doubled : ∀ {n : Nat} (p : Fin (n + 1) → Bool) (l : List (Fin n)),
      (l.map Fin.succ).foldr (fun h m => maskBit (p h) h.val + m) 0 =
        2 * l.foldr (fun h m => maskBit ((p ∘ Fin.succ) h) h.val + m) 0 := by
    intro n p l
    induction l with
    | nil => rfl
    | cons h l ih =>
      rw [List.map_cons, List.foldr_cons, List.foldr_cons, ih, maskBit_eq, maskBit_eq, Fin.val_succ, Nat.pow_succ]
      simp only [Function.comp_apply]
      ring
  induction n with
  | zero => rfl
  | succ n ih =>
    rw [List.finRange_succ, List.foldr_cons, doubled, ih, Nat.ofBits_succ, maskBit_eq, Fin.val_zero, Nat.pow_zero,
      Nat.one_mul, Nat.add_comm]

theorem headMaskBytes_eq (p : HeadId → Bool) : headMaskBytes p = leBytes 8 (Nat.ofBits p) :=
  congrArg (leBytes 8) (sum_maskBit_eq_ofBits p)

/-- Each bit of a head mask's field is the one of its head (R178). -/
theorem headMask_testBit (p : HeadId → Bool) (h : HeadId) : (Nat.ofBits p % 256 ^ 8).testBit h.val = p h := by
  rw [show (256 : Nat) ^ 8 = 2 ^ 64 from rfl, Nat.mod_eq_of_lt (Nat.ofBits_lt_two_pow p),
    Nat.testBit_ofBits_lt p h.val h.isLt]

theorem length_cleaningRecord (c : Cleaning) : c.record.length = 280 := by
  simp only [Cleaning.record, headMaskBytes_eq, List.length_append, length_leBytes, length_flatMap_leBytes, allHeads,
    List.length_finRange]

/-- Each field of the cleaning record is the one its offset begins with (R181). -/
theorem cleaningRecord_fields (c : Cleaning) :
    let p := c.record
    let plan := c.plan.getD ⟨0, 0, 0⟩
    fieldAt p 0 1 = c.result.code % 256 ^ 1 ∧ fieldAt p 1 2 = plan.openTime % 256 ^ 2 ∧
      fieldAt p 3 2 = plan.pauseTime % 256 ^ 2 ∧ fieldAt p 5 1 = plan.cycles % 256 ^ 1 ∧
      fieldAt p 6 1 = c.cycle % 256 ^ 1 ∧ fieldAt p 7 1 = c.cyclesDone % 256 ^ 1 ∧
      fieldAt p 8 8 = (Nat.ofBits fun h : HeadId => c.driven[h]) % 256 ^ 8 ∧
      fieldAt p 16 8 = (Nat.ofBits fun h : HeadId => c.noFlow[h]) % 256 ^ 8 ∧
      ∀ o size, 24 ≤ o →
        fieldAt p o size = fieldAt (allHeads.flatMap fun h => leBytes 4 (millilitres c.counters[h])) (o - 24) size := by
  simp only [Cleaning.record, headMaskBytes_eq, List.append_assoc]
  refine ⟨fieldAt_leBytes _ _ _, ?_, ?_, ?_, ?_, ?_, ?_, ?_, fun o size ho => ?_⟩
  case refine_8 =>
    repeat rw [fieldAt_skip (by omega)]
    congr 1
  all_goals simp only [fieldAt_skip, fieldAt_leBytes, Nat.reduceLeDiff, Nat.reduceSub]

/-- Without a plan the five bytes of the plan are 0. -/
theorem cleaningRecord_noPlan {c : Cleaning} (hp : c.plan = none) : fieldAt c.record 1 5 = 0 := by
  simp only [Cleaning.record, hp, Option.getD_none, List.append_assoc]
  rw [fieldAt_skip (Nat.le_refl 1)]
  rfl

/-- A head's counter in mL, in the four bytes at four times its number (R168, R181). -/
theorem cleaningRecord_volume (c : Cleaning) (h : HeadId) :
    fieldAt c.record (24 + 4 * h.val) 4 = millilitres c.counters[h] := by
  have hlen : h.val < allHeads.length := by simp [allHeads]
  have hhead : allHeads[h.val] = h := by simp [allHeads]
  obtain ⟨-, -, -, -, -, -, -, -, hvolumes⟩ := cleaningRecord_fields c
  rw [hvolumes _ 4 (Nat.le_add_right 24 _), Nat.add_sub_cancel_left,
    fieldAt_flatMap_leBytes 4 (fun h : HeadId => millilitres c.counters[h]) allHeads h.val hlen, hhead]
  refine Nat.mod_eq_of_lt ?_
  unfold millilitres sat32
  omega

theorem millilitres_eq (nl : Nat) :
    millilitres nl = if 4294967295 < nl / 1000000 then 4294967295 else nl / 1000000 := by
  unfold millilitres sat32
  split <;> omega

/-- Settles O50: each field of the cleaning record is the one its offset begins with, the counters one behind the
other. -/
theorem readCleaningVolumesAnswersTheRecord : Obligations.ReadCleaningVolumesAnswersTheRecord := by
  intro s hs
  refine ⟨s.cleaning.record, congrArg _ (transact_accepted hs rfl), length_cleaningRecord _, ?_⟩
  obtain ⟨hresult, hopen, hpause, hcycles, hcycle, hdone, hdriven, hmarks, -⟩ := cleaningRecord_fields s.cleaning
  refine ⟨hresult.trans ?_, cleaningRecord_noPlan, fun plan hp hopenFits hpauseFits hcyclesFit => ?_,
    fun hfits => hcycle.trans (Nat.mod_eq_of_lt (by omega)), fun hfits => hdone.trans (Nat.mod_eq_of_lt (by omega)),
    fun h => ⟨?_, ?_, ?_⟩⟩
  · cases s.cleaning.result <;> rfl
  · simp only [hp, Option.getD_some] at hopen hpause hcycles
    exact ⟨hopen.trans (Nat.mod_eq_of_lt (by omega)), hpause.trans (Nat.mod_eq_of_lt (by omega)),
      hcycles.trans (Nat.mod_eq_of_lt (by omega))⟩
  · rw [hdriven, headMask_testBit]
  · rw [hmarks, headMask_testBit]
  · rw [cleaningRecord_volume, millilitres_eq]

end Sys2Proof.Machine
end
